-- ==== Sys2Proof/Word.lean ====
section
/-! DEFINITION. The plain words of the part: bytes and two-byte fields as they cross its boundary, the numbers of its
slots, channels, lines, profiles, sources and banks (section 5.3 of the scope file), and the one map over a fixed table. -/

namespace Sys2Proof

/-- A byte of a frame, a port transaction or a result (section 5.4). -/
abbrev Byte := BitVec 8

/-- A two-byte field of a frame or a command (section 5.4). -/
abbrev Word := BitVec 16

/-- A draw record slot, 0 to 23 (R1). -/
abbrev Slot := Fin 24

/-- A rectifier channel, 0 to 31 (section 5.3). -/
abbrev Chan := Fin 32

/-- A rectifier line, 0 to 7 (section 5.3); line 8, the grid line, has its own state. -/
abbrev LineNo := Fin 8

/-- A profile number, 0 to 8; 8 is the silence profile (section 5.3). -/
abbrev ProfileNo := Fin 9

/-- An attention source number, 0 to 7; 0 has the highest priority (section 5.3). -/
abbrev SourceNo := Fin 8

/-- A fault bank number, 0 to 3 (section 5.3). -/
abbrev BankNo := Fin 4

/-- The same change made to every entry of a fixed table. -/
def mapV {α β : Type} {n : Nat} (f : α → β) (v : Vector α n) : Vector β n :=
  ⟨⟨v.toList.map f⟩, by simp⟩

end Sys2Proof
end

