-- ==== Sys2Proof/Syntax.lean ====
section
/-! DEFINITION. The commands the part takes from outside, one constructor for each row of spec/opcode_table.json: resets,
port transactions, the supervisor's 23 commands sent whole, the events of its timers and of a pass, and what arrives on the
nine serial lines. An operand is what the outside decides; everything else the part finds in its own state. -/

namespace Sys2Proof

/-- What is wrong with a damaged character (R77, R121). -/
inductive CharFault where
  | parity
  | framing
  | both
  deriving DecidableEq, Repr

/-- How much of a publication and its window (R38, R47) one PUBLICATION step carries out. -/
inductive WindowPart where
  /-- The pass publishes if it has not yet, and the whole of the window follows with no other event inside it: the waiting
  command is taken after `expiriesFirst` of the deferred step expiries (after all of them, where there are fewer). -/
  | whole (expiriesFirst : Nat)
  /-- The pass publishes, and other events fall inside its window, which stays open. -/
  | opened
  /-- The open window takes its waiting command. -/
  | takeCommand
  /-- The open window takes the first of the deferred step expiries. -/
  | takeExpiry
  deriving DecidableEq, Repr

/-- What had begun before the end of a reset and has not ended then (R205): a transaction of the port, a character on a rectifier
line, a character on the grid line. The part does not take them. -/
structure Underway where
  port : Bool
  lines : Vector Bool 8
  grid : Bool
  deriving DecidableEq, Repr

/-- Nothing had begun. -/
def Underway.nothing : Underway := { port := false, lines := Vector.replicate 8 false, grid := false }

/-- The commands and events of the part. -/
inductive Instr where
  /-- POWER_ON_RESET: VDD crosses 2.7 V (R205). -/
  | powerOnReset
  /-- PIN_RESET: RESET goes low (R205). -/
  | pinReset
  /-- END_OF_RESET: the reset ends (R205), with what the outside has begun and not ended by then: nothing, where it is not
  said. -/
  | endOfReset (begun : Underway := Underway.nothing)
  /-- PUT: a whole PUT transaction with its data byte (R149). `executionFirst` says that the EXECUTION it begins was taken before the
  start of the pass that another event's request was starting in an idle Engine (R152); where it is not said, after it. -/
  | put (data : Byte) (executionFirst : Bool := false)
  /-- TAKE: a whole TAKE transaction (R154). `selectedEarly` says that its selector byte was clocked in before the event that
  ended EXECUTION, so that it was judged out of turn (R145). -/
  | take (selectedEarly : Bool)
  /-- ABORT: a whole ABORT transaction (R156). -/
  | abort
  /-- UNKNOWN_SELECTOR: a transaction by its selector byte and its data byte, the selector being none of PUT, TAKE and ABORT, which
  have rows of their own (R146). STATUS has no row of its own: its transaction is this row's with the selector of STATUS. Where they are
  not said both bytes are 0x00. -/
  | unknownSelector (selector data : Byte := 0x00)
  /-- TRANSACTION_CUT_SHORT: chip select released early (R145). -/
  | transactionCutShort
  /-- OPEN_DRAW sent whole (R163); the feeder count byte is the length of the list. -/
  | openDraw (slot tag attrs : Byte) (floor ceiling target : Word) (upRate downRate : Byte) (feeders : List (Byte × Byte))
  /-- SET_TARGET sent whole (R165). -/
  | setTarget (slot : Byte) (target : Word)
  /-- AMEND_DRAW sent whole (R166). -/
  | amendDraw (slot attrs upRate downRate : Byte)
  /-- RETIRE_DRAW sent whole (R167). -/
  | retireDraw (slot : Byte)
  /-- READ_DRAW sent whole (R168). -/
  | readDraw (slot : Byte)
  /-- SCAN_DRAWS sent whole (R170). -/
  | scanDraws (condition : Byte) (value : Word)
  /-- SET_CAP sent whole (R172). -/
  | setCap (e0 : Word)
  /-- READ_PLANT sent whole (R173). -/
  | readPlant
  /-- SET_CHANNEL sent whole (R174). -/
  | setChannel (channel enabled : Byte) (capacity : Word)
  /-- REARM_CHANNEL sent whole (R175). -/
  | rearmChannel (channel : Byte)
  /-- READ_CHANNEL sent whole (R176). -/
  | readChannel (channel : Byte)
  /-- READ_LINE sent whole (R177). -/
  | readLine (line : Byte)
  /-- LOAD_PROFILE sent whole (R178). -/
  | loadProfile (index enabled mask polarity mode confirm : Byte) (retain : Word) (tracking hold period : Byte) (step : Word)
  /-- READ_PROFILE sent whole (R179). -/
  | readProfile (index : Byte)
  /-- CONFIGURE_GRID sent whole (R180). -/
  | configureGrid (level1 level2 level3 high uf overFreq ub : Word) (db k : Byte) (fmin : Word) (silence : Byte)
  /-- CONFIGURE_TIMING sent whole (R181). -/
  | configureTiming (step stale lost engage release tolerance trackCount reentryLimit : Byte)
  /-- READ_GRID sent whole (R182). -/
  | readGrid (view : Byte)
  /-- RESUME sent whole (R183). -/
  | resume
  /-- SENSE_ATTENTION sent whole (R184). -/
  | senseAttention
  /-- END_SERVICE sent whole (R184). -/
  | endService (source : Byte)
  /-- SET_ATTENTION_MASK sent whole (R184). -/
  | setAttentionMask (mask : Byte)
  /-- READ_FAULT_BANK sent whole (R185). -/
  | readFaultBank (bank : Byte)
  /-- CLEAR_FAULT_BANK sent whole (R185). -/
  | clearFaultBank (bank : Byte)
  /-- PUBLICATION: the pass in flight publishes (R38), with its window (R47). -/
  | publication (part : WindowPart)
  /-- STEP_TIMER_EXPIRY (R54). -/
  | stepTimerExpiry
  /-- ENGAGE_TIMER_EXPIRY of one record (R19). -/
  | engageTimerExpiry (slot : Slot)
  /-- RELEASE_TIMER_EXPIRY of one record (R22). -/
  | releaseTimerExpiry (slot : Slot)
  /-- FETCH: a channel's whole valid FETCH frame arrives on its line (R123, R124). -/
  | fetch (channel : Chan) (ready fault limit : Bool) (measured : BitVec 12)
  /-- FETCH_DISCARD: a FETCH completes on the line with a check sum that is not 0 (R123). -/
  | fetchDiscard (line : LineNo)
  /-- FETCH_TIME_LIMIT: the time limit of the frame open on the line passes (R122). -/
  | fetchTimeLimit (line : LineNo)
  /-- RECTIFIER_CHARACTER_ERROR: a damaged character on the line (R121). -/
  | rectifierCharacterError (line : LineNo) (damage : CharFault)
  /-- REPLY_BEGIN: the line has been idle for the turnaround gap (R125). -/
  | replyBegin (line : LineNo)
  /-- GRANT_COMPLETE: the last character of the GRANT has been sent (R127). -/
  | grantComplete (line : LineNo)
  /-- COLLISION: a character read back differs from the one sent (R129). -/
  | collision (line : LineNo)
  /-- STALE_TIMER_EXPIRY of one channel (R134). -/
  | staleTimerExpiry (channel : Chan)
  /-- LOST_TIMER_EXPIRY of one channel (R134, R135). -/
  | lostTimerExpiry (channel : Chan)
  /-- GRID_FRAME: the bytes of a whole grid frame after its lead (section 10.2): the second byte, the three two-byte fields
  and the check byte as received. -/
  | gridFrame (second : Byte) (voltage unbalance deviation : Word) (check : Byte)
  /-- GRID_FRAME_TIME_LIMIT (R78). -/
  | gridFrameTimeLimit
  /-- GRID_CHARACTER_ERROR (R77). -/
  | gridCharacterError (damage : CharFault)
  /-- SILENCE_TIMER_EXPIRY (R85). -/
  | silenceTimerExpiry
  /-- HOLD_TIMER_EXPIRY (R104). -/
  | holdTimerExpiry
  /-- RESTORE_TIMER_EXPIRY (R106). -/
  | restoreTimerExpiry
  /-- RECTIFIER_LINE_CHARACTER: a sound character on the line (R120). -/
  | rectifierLineCharacter (line : LineNo) (value : Byte)
  /-- GRID_LINE_CHARACTER: a sound character on the grid line (R76). -/
  | gridLineCharacter (value : Byte)
  deriving DecidableEq, Repr

end Sys2Proof
end

