-- ==== Sys2Proof/Decode.lean ====
section
/-! DEFINITION. The command a word of spec/opcode_table.json spells. The table gives no row any bits ("fields" is empty in
every row), so no word spells a command. The byte encodings of the part itself (command codes and parameters, frames) are
in Machine/Operands.lean, where the port and the lines read them. -/

namespace Sys2Proof

/-- No row of the table gives bits: no word spells a command. -/
def decodeTableWord (_nbits _w : Nat) : Option Instr := none

end Sys2Proof
end

