-- ==== Sys2Proof/Config.lean ====
section
/-! DEFINITION. What one part fixes for good: the reset values of its settings (R75, R95, R119, R144), and the byte
values of its protocols (chapter 10). -/

namespace Sys2Proof

namespace Config

/-- R75: step period after reset, in ms. -/
def stepPeriod : Nat := 20
/-- R75: engage time after reset, in units of 10 ms. -/
def engageTime : Nat := 200
/-- R75: release time after reset, in units of 10 ms. -/
def releaseTime : Nat := 100
/-- R144: stale time after reset, in ms. -/
def staleTime : Nat := 40
/-- R144: lost time after reset, in units of 10 ms. -/
def lostTime : Nat := 50
/-- R144: tracking tolerance after reset, in du. -/
def tolerance : Nat := 40
/-- R144: tracking count after reset. -/
def trackCount : Nat := 5
/-- R119: re-entry limit after reset. -/
def reentryLimit : Nat := 3

/-- R120: the first of the four FETCH lead bytes. -/
def fetchLead : Nat := 0xC0
/-- R127: the first of the four GRANT lead bytes. -/
def grantLead : Nat := 0xE0
/-- R76: the lead byte of a grid measurement frame. -/
def gridLead : Nat := 0xA5
/-- R146: the selector of STATUS. -/
def statusSelector : Byte := 0x3C
/-- R146: the selector of PUT. -/
def putSelector : Byte := 0x5A
/-- R146: the selector of TAKE. -/
def takeSelector : Byte := 0xA5
/-- R146: the selector of ABORT. -/
def abortSelector : Byte := 0xC3

end Config

end Sys2Proof
end

