-- ==== Sys2Proof/Machine/State.lean ====
section
/-! DEFINITION. Everything the manual gives the part to hold, block by block as section 3 of the scope file lists them, and
the part right after a power-on reset. Quantities are natural numbers with the ranges INVENTORY.md lists; bytes that cross the
boundary, masks and flag bytes are bit vectors. A timer is `none` while stopped and holds the time it was started with
while it runs (log entry 1). -/

namespace Sys2Proof.Machine

/-- A timer: stopped, or running from the time it was last started with, in the unit of its setting. -/
abbrev Timer := Option Nat

/-! ## Draw Table (chapter 1) -/

/-- The lifecycle states of a draw record (section 1.6), in the order of their codes (R161). -/
inductive RecordState where
  | free
  | pending
  | engaging
  | active
  | releasing
  | shed
  | faulted
  deriving DecidableEq, Repr

/-- A record's shedding class (R3), in the order of the codes (R161). -/
inductive DrawClass where
  | a
  | b
  | c
  deriving DecidableEq, Repr

/-- One entry of a record's feeder list (R10). -/
structure Feeder where
  channel : Chan
  weight : Nat
  deriving DecidableEq, Repr

/-- A draw record with the fields every block keeps in it (section 1.1) and its two timers (chapter 3). -/
structure DrawRecord where
  state : RecordState
  tag : Nat
  cls : DrawClass
  rank : Fin 8
  lock : Bool
  exempt : Bool
  floor : Nat
  ceiling : Nat
  target : Nat
  aim : Nat
  upRate : Nat
  downRate : Nat
  feeders : List Feeder
  held : Option Nat
  grant : Nat
  present : Nat
  engageTimer : Timer
  releaseTimer : Timer
  deriving DecidableEq, Repr

/-- The FREE values of a record (R1). -/
def DrawRecord.free : DrawRecord where
  state := .free
  tag := 0
  cls := .a
  rank := 0
  lock := false
  exempt := false
  floor := 0
  ceiling := 0
  target := 0
  aim := 0
  upRate := 0
  downRate := 0
  feeders := []
  held := none
  grant := 0
  present := 0
  engageTimer := none
  releaseTimer := none

/-! ## Rectifier Link Unit (chapter 6) -/

/-- The condition of a channel (section 6.4), in the order of the codes (R161). -/
inductive Condition where
  | idle
  | waiting
  | online
  | stale
  | notReady
  | lost
  | tripped
  deriving DecidableEq, Repr

/-- A channel record (the table at the head of chapter 6). `lastStatus` holds READY, FAULT and LIMIT in bits 7 to 5. -/
structure Channel where
  enabled : Bool
  capacity : Nat
  owner : Option Slot
  condition : Condition
  share : Nat
  frozen : Nat
  clamp : Option Nat
  tracking : Bool
  mismatch : Nat
  lastMeasured : Nat
  lastStatus : Byte
  staleTimer : Timer
  lostTimer : Timer
  deriving DecidableEq, Repr

/-- The reset values of a channel record (R144). -/
def Channel.blank : Channel where
  enabled := false
  capacity := 0
  owner := none
  condition := .idle
  share := 0
  frozen := 0
  clamp := none
  tracking := false
  mismatch := 0
  lastMeasured := 0
  lastStatus := 0
  staleTimer := none
  lostTimer := none

/-- The receiver of a rectifier line (R120): the frame open holds the bytes taken, and its time limit (R122) runs exactly
while it is open; a reply being sent holds its five bytes and how many have been read back right (R129). -/
inductive Receiver where
  | hunting
  | receiving (taken : List Byte)
  | sending (frame : List Byte) (readBack : Nat)
  deriving DecidableEq, Repr

/-- A rectifier line. `flags` is laid out as READ LINE reports it (R177). -/
structure Line where
  receiver : Receiver
  reply : Option Chan
  flags : Byte
  deriving DecidableEq, Repr

/-- The reset values of a line (R144). -/
def Line.blank : Line where
  receiver := .hunting
  reply := none
  flags := 0

/-! ## Settings of CONFIGURE TIMING (R181) -/

/-- The eight settings CONFIGURE TIMING writes together, in the order of its parameters. -/
structure Timing where
  stepPeriod : Nat
  staleTime : Nat
  lostTime : Nat
  engageTime : Nat
  releaseTime : Nat
  tolerance : Nat
  trackCount : Nat
  reentryLimit : Nat
  deriving DecidableEq, Repr

/-- The settings after reset (R75, R144, R119). -/
def Timing.default : Timing where
  stepPeriod := Config.stepPeriod
  staleTime := Config.staleTime
  lostTime := Config.lostTime
  engageTime := Config.engageTime
  releaseTime := Config.releaseTime
  tolerance := Config.tolerance
  trackCount := Config.trackCount
  reentryLimit := Config.reentryLimit

/-! ## Ramp Unit (chapter 3) -/

/-- The step timer, which holds the length of the period in progress (R53), and the count of deferred expiries (R54). The
aims, presents, shares, frozen shares and the engage and release timers stand in the draw and channel records. -/
structure Ramp where
  stepTimer : Timer
  deferred : Nat
  deriving DecidableEq, Repr

/-! ## Ride-Through Sequencer (chapter 5) -/

/-- The Sequencer states (R96), in the order of the codes (R161). -/
inductive SeqState where
  | normal
  | confirming
  | riding
  | holding
  | latched
  | restoring
  | blind
  deriving DecidableEq, Repr

/-- A profile's test mode (R90). -/
inductive ProfileMode where
  | all
  | any
  deriving DecidableEq, Repr

/-- One entry of the profile table (R90). -/
structure Profile where
  enabled : Bool
  mask : Byte
  polarity : Byte
  mode : ProfileMode
  confirm : Nat
  retain : Nat
  tracking : Bool
  hold : Nat
  period : Nat
  step : Nat
  deriving DecidableEq, Repr

/-- Profiles 0 to 7 after reset (R95). -/
def Profile.default : Profile where
  enabled := false
  mask := 0
  polarity := 0
  mode := .all
  confirm := 1
  retain := 1000
  tracking := false
  hold := 50
  period := 20
  step := 100

/-- Profile 8 after reset (R95, R93). -/
def Profile.silence : Profile := { Profile.default with retain := 700 }

/-- The Sequencer's fields (the table of section 5.1); the held values stand in the draw records and the re-entry limit in
the timing settings. -/
structure Sequencer where
  state : SeqState
  inUse : Option ProfileNo
  candidate : Option ProfileNo
  count : Nat
  i0 : Nat
  er : Nat
  reentries : Nat
  resumeRequired : Bool
  holdTimer : Timer
  restoreTimer : Timer
  profiles : Vector Profile 9
  deriving DecidableEq, Repr

/-- The Sequencer after reset (R119). -/
def Sequencer.initial : Sequencer where
  state := .blind
  inUse := some 8
  candidate := none
  count := 0
  i0 := 0
  er := 0
  reentries := 0
  resumeRequired := false
  holdTimer := none
  restoreTimer := none
  profiles := (Vector.replicate 9 Profile.default).set 8 Profile.silence

/-! ## Grid Intake (chapter 4) -/

/-- The receiver of the grid line (R76): no frame open, or the bytes taken so far, with the time limit (R78) running. -/
inductive GridReceiver where
  | hunting
  | receiving (taken : List Byte)
  deriving DecidableEq, Repr

/-- The thresholds, the droop settings and the silence time (sections 4.3 and 4.4), in the order of CONFIGURE GRID. -/
structure GridSettings where
  level1 : Nat
  level2 : Nat
  level3 : Nat
  high : Nat
  uf : Nat
  overFreq : Nat
  ub : Nat
  db : Nat
  k : Nat
  fmin : Nat
  silence : Nat
  deriving DecidableEq, Repr

/-- The grid settings after reset (R95). -/
def GridSettings.default : GridSettings where
  level1 := 850
  level2 := 500
  level3 := 150
  high := 1100
  uf := 20
  overFreq := 20
  ub := 50
  db := 2
  k := 0
  fmin := 500
  silence := 5

/-- Grid Intake (the table at the head of chapter 4). `flags` is laid out as READ LINE reports it, `conditions` as section 4.3
numbers the condition bits. -/
structure Grid where
  receiver : GridReceiver
  flags : Byte
  frameSeen : Bool
  voltage : Nat
  unbalance : Nat
  deviation : Int
  sequence : Nat
  pj : Bool
  conditions : Byte
  seqRef : Option Nat
  f : Nat
  silenceTimer : Timer
  settings : GridSettings
  deriving DecidableEq, Repr

/-- Grid Intake after reset (R95). -/
def Grid.initial : Grid where
  receiver := .hunting
  flags := 0
  frameSeen := false
  voltage := 0
  unbalance := 0
  deviation := 0
  sequence := 0
  pj := false
  conditions := 0
  seqRef := none
  f := 1000
  silenceTimer := none
  settings := GridSettings.default

/-! ## Allocation Engine (chapter 2) -/

/-- What a pass's snapshot holds of one record (R45). -/
structure SnapRecord where
  state : RecordState
  cls : DrawClass
  rank : Fin 8
  exempt : Bool
  floor : Nat
  aim : Nat
  held : Option Nat
  floorEff : Nat
  ceff : Nat
  present : Nat
  online : Nat
  deriving DecidableEq, Repr

/-- The snapshot a pass takes of its inputs (R45). -/
structure Snapshot where
  e0 : Nat
  f : Nat
  er : Nat
  erInEffect : Bool
  seqState : SeqState
  records : Vector SnapRecord 24
  deriving DecidableEq, Repr

/-- The pass state (section 2.7). IDLE is `idle`; RUNNING is `running`, from the start of a pass to its publication, and
`window`, the publication window of R47, which still has to take the command that was waiting at the publication or has not. -/
inductive Pass where
  | idle
  | running (snapshot : Snapshot)
  | window (commandDue : Bool)
  deriving DecidableEq, Repr

/-- The Engine's own items (the table at the head of chapter 2); the grants stand in the draw records. -/
structure Engine where
  e0 : Nat
  publishedCap : Nat
  pubNumber : Nat
  pass : Pass
  rerun : Bool
  breach : Bool
  deriving DecidableEq, Repr

/-- The Engine after reset (R51). -/
def Engine.initial : Engine where
  e0 := 0
  publishedCap := 0
  pubNumber := 0
  pass := .idle
  rerun := false
  breach := false

/-! ## Supervisor Port (chapter 7) -/

/-- The protocol phase (section 7.2). RFT and DIR follow it (R148). -/
inductive Phase where
  | command
  | execution
  | result
  deriving DecidableEq, Repr

/-- The 23 command codes (section 10.5). -/
inductive CmdCode where
  | openDraw
  | setTarget
  | amendDraw
  | retireDraw
  | readDraw
  | scanDraws
  | setCap
  | readPlant
  | setChannel
  | rearmChannel
  | readChannel
  | readLine
  | loadProfile
  | readProfile
  | configureGrid
  | configureTiming
  | readGrid
  | resume
  | senseAttention
  | endService
  | setAttentionMask
  | readFaultBank
  | clearFaultBank
  deriving DecidableEq, Repr

/-- The parameters of an OPEN DRAW that passed its range checks (R163). -/
structure OpenParams where
  slot : Slot
  tag : Nat
  cls : DrawClass
  rank : Fin 8
  lock : Bool
  exempt : Bool
  floor : Nat
  ceiling : Nat
  target : Nat
  upRate : Nat
  downRate : Nat
  feeders : List Feeder
  deriving DecidableEq, Repr

/-- A command whose parameters have passed its range checks (R159), read into the fields they stand for. -/
inductive Cmd where
  | openDraw (p : OpenParams)
  | setTarget (slot : Slot) (target : Nat)
  | amendDraw (slot : Slot) (cls : DrawClass) (rank : Fin 8) (lock exempt : Bool) (upRate downRate : Nat)
  | retireDraw (slot : Slot)
  | readDraw (slot : Slot)
  | scanDraws (condition : Fin 7) (value : Nat)
  | setCap (e0 : Nat)
  | readPlant
  | setChannel (channel : Chan) (enabled : Bool) (capacity : Nat)
  | rearmChannel (channel : Chan)
  | readChannel (channel : Chan)
  | readLine (line : Fin 9)
  | loadProfile (index : ProfileNo) (profile : Profile)
  | readProfile (index : ProfileNo)
  | configureGrid (settings : GridSettings)
  | configureTiming (timing : Timing)
  | readGrid (settingsView : Bool)
  | resume
  | senseAttention
  | endService (source : SourceNo)
  | setAttentionMask (mask : Byte)
  | readFaultBank (bank : BankNo)
  | clearFaultBank (bank : BankNo)
  deriving DecidableEq, Repr

/-- The Supervisor Port (the table at the head of chapter 7). -/
structure Port where
  phase : Phase
  slip : Bool
  code : Option CmdCode
  params : List Byte
  expected : Nat
  waiting : Option Cmd
  result : List Byte
  readPos : Nat
  deriving DecidableEq, Repr

/-- The port after reset (R158). -/
def Port.initial : Port where
  phase := .command
  slip := false
  code := none
  params := []
  expected := 0
  waiting := none
  result := []
  readPos := 0

/-! ## Attention Unit and Fault Banks (chapter 9) -/

/-- One attention source: IE, IP, IUS and its member set in rising order (R187). -/
structure AttentionSource where
  ie : Bool
  ip : Bool
  ius : Bool
  members : List Nat
  deriving DecidableEq, Repr

/-- A source after reset (R193). -/
def AttentionSource.initial : AttentionSource where
  ie := false
  ip := false
  ius := false
  members := []

/-- The severity of a capture (section 9.3), in rising order. -/
inductive Severity where
  | none
  | notice
  | degraded
  | breach
  deriving DecidableEq, Repr

/-- A fault bank record (R194). -/
structure FaultBank where
  valid : Bool
  overflow : Bool
  severity : Severity
  code : Nat
  index : Nat
  seqState : SeqState
  deriving DecidableEq, Repr

/-- An empty bank (R194): the Sequencer state reads 0, the code of NORMAL. -/
def FaultBank.empty : FaultBank where
  valid := false
  overflow := false
  severity := .none
  code := 0
  index := 0
  seqState := .normal

/-! ## The whole part -/

/-- Whether a reset lasts (R205): the RESET input or the supply holds the part, or neither. -/
inductive ResetState where
  | running
  | pinHeld
  | powerHeld
  deriving DecidableEq, Repr

/-- The whole part. `sdo` is the data byte the last whole transaction shifted out (R145). `underway` is what had
begun before the end of the last reset and is still going on (R205). The last field is the model's own: the commands that are
waiting, first in, first out. -/
structure State where
  table : Vector DrawRecord 24
  channels : Vector Channel 32
  lines : Vector Line 8
  timing : Timing
  ramp : Ramp
  seq : Sequencer
  grid : Grid
  engine : Engine
  port : Port
  attention : Vector AttentionSource 8
  banks : Vector FaultBank 4
  resetState : ResetState
  sdo : Byte
  underway : Underway
  pending : List Instr
  deriving DecidableEq, Repr

/-- The part right after a power-on reset: every block at its reset values, the fault banks empty, the step timer in its first
period (R23, R51, R75, R95, R119, R144, R158, R193, R201), nothing waiting. -/
def State.reset : State where
  table := Vector.replicate 24 DrawRecord.free
  channels := Vector.replicate 32 Channel.blank
  lines := Vector.replicate 8 Line.blank
  timing := Timing.default
  ramp := { stepTimer := some Config.stepPeriod, deferred := 0 }
  seq := Sequencer.initial
  grid := Grid.initial
  engine := Engine.initial
  port := Port.initial
  attention := Vector.replicate 8 AttentionSource.initial
  banks := Vector.replicate 4 FaultBank.empty
  resetState := .running
  sdo := 0
  underway := Underway.nothing
  pending := []

/-- The reasons for which the part would stop with a fault: none. The manual gives every command and event an effect, so no
meaning raises a fault, and the type has no constructor. -/
inductive Fault where
  deriving DecidableEq, Repr

/-- The reasons for which the model would refuse a command. -/
inductive Refusal where
  /-- The command has no meaning in the model yet. Only an arm of `exec` answers with it; safe, since the run stops there. -/
  | notModelled (mnemonic : String)
  deriving DecidableEq, Repr

end Sys2Proof.Machine
end

