-- ==== Sys2Proof/Machine/Ops.lean ====
section
/-! DEFINITION. The named operations every meaning is built from: reading and replacing one record, channel, line, source or
bank; limits computed from a record's feeders; attention occurrences and fault captures; the snapshot of a pass and the
requests that start one; binding and unbinding. -/

namespace Sys2Proof.Machine

/-! ## Reading and replacing parts of the state -/

/-- The draw record at a slot. -/
def State.record (s : State) (i : Slot) : DrawRecord := s.table.get i
/-- The channel record of a channel. -/
def State.channel (s : State) (c : Chan) : Channel := s.channels.get c
/-- A rectifier line. -/
def State.line (s : State) (l : LineNo) : Line := s.lines.get l
/-- An attention source. -/
def State.source (s : State) (n : SourceNo) : AttentionSource := s.attention.get n
/-- A fault bank. -/
def State.bank (s : State) (b : BankNo) : FaultBank := s.banks.get b
/-- A profile of the table. -/
def State.profile (s : State) (p : ProfileNo) : Profile := s.seq.profiles.get p

/-- The state with one draw record replaced. -/
def State.setRecord (s : State) (i : Slot) (r : DrawRecord) : State := { s with table := s.table.set i r }
/-- The state with one channel record replaced. -/
def State.setChannel (s : State) (c : Chan) (x : Channel) : State := { s with channels := s.channels.set c x }
/-- The state with one line replaced. -/
def State.setLine (s : State) (l : LineNo) (x : Line) : State := { s with lines := s.lines.set l x }
/-- The state with one attention source replaced. -/
def State.setSource (s : State) (n : SourceNo) (x : AttentionSource) : State :=
  { s with attention := s.attention.set n x }
/-- The state with one fault bank replaced. -/
def State.setBank (s : State) (b : BankNo) (x : FaultBank) : State := { s with banks := s.banks.set b x }
/-- The state with every draw record changed in the same way. -/
def State.mapRecords (s : State) (g : DrawRecord → DrawRecord) : State := { s with table := mapV g s.table }
/-- The state with every channel record changed in the same way. -/
def State.mapChannels (s : State) (g : Channel → Channel) : State := { s with channels := mapV g s.channels }
/-- The state with the timing settings replaced. -/
def State.setTiming (s : State) (x : Timing) : State := { s with timing := x }
/-- The state with the Ramp Unit's own items replaced. -/
def State.setRamp (s : State) (x : Ramp) : State := { s with ramp := x }
/-- The state with the Sequencer's fields replaced. -/
def State.setSeq (s : State) (x : Sequencer) : State := { s with seq := x }
/-- The state with Grid Intake replaced. -/
def State.setGrid (s : State) (x : Grid) : State := { s with grid := x }
/-- The state with the Engine's own items replaced. -/
def State.setEngine (s : State) (x : Engine) : State := { s with engine := x }
/-- The state with the port replaced. -/
def State.setPort (s : State) (x : Port) : State := { s with port := x }
/-- The state with another byte shifted out last. -/
def State.setSdo (s : State) (b : Byte) : State := { s with sdo := b }
/-- The state with another record of what has been going on since before the end of a reset. -/
def State.setUnderway (s : State) (x : Underway) : State := { s with underway := x }
/-- The state with another queue of waiting commands. -/
def State.setPending (s : State) (q : List Instr) : State := { s with pending := q }

/-- All slots in ascending order. -/
def slots : List Slot :=
  [0, 1, 2, 3, 4, 5, 6, 7, 8, 9, 10, 11, 12, 13, 14, 15, 16, 17, 18, 19, 20, 21, 22, 23]

/-- The sum of a quantity over slots, computed exactly (section 5.2). -/
def sumOver (is : List Slot) (g : Slot → Nat) : Nat := (is.map g).sum

/-! ## Records and channels -/

/-- R1: a record is live in every state except FREE. -/
def DrawRecord.live (r : DrawRecord) : Bool := r.state != .free

/-- R131: the usable capacity of a channel. -/
def Channel.usable (x : Channel) : Nat :=
  match x.condition with
  | .online => match x.clamp with
    | some m => min x.capacity m
    | none => x.capacity
  | .stale => x.frozen
  | _ => 0

/-- The frozen share of a channel: the share it holds while it is STALE (R65). -/
def Channel.frozenShare (x : Channel) : Nat := if x.condition = .stale then x.frozen else 0

/-- The usable capacity of a channel that is ONLINE, and 0 otherwise (R19, R36). -/
def Channel.onlineCapacity (x : Channel) : Nat := if x.condition = .online then x.usable else 0

/-- A quantity of a record's feeder channels, summed over its feeder list. -/
def State.feederSum (s : State) (fs : List Feeder) (g : Channel → Nat) : Nat :=
  (fs.map fun f => g (s.channel f.channel)).sum

/-- R66: the carrying capacity K of a record. -/
def State.carrying (s : State) (i : Slot) : Nat := s.feederSum (s.record i).feeders Channel.usable
/-- The sum of a record's frozen shares. -/
def State.frozenSum (s : State) (i : Slot) : Nat := s.feederSum (s.record i).feeders Channel.frozenShare
/-- The usable capacity of those feeders of a record that are ONLINE (R19, R36). -/
def State.onlineSum (s : State) (i : Slot) : Nat := s.feederSum (s.record i).feeders Channel.onlineCapacity
/-- R16: the effective ceiling of a record. -/
def State.ceff (s : State) (i : Slot) : Nat := min (s.record i).ceiling (s.carrying i)
/-- R16: the effective floor of a record. -/
def State.floorEff (s : State) (i : Slot) : Nat := max (s.record i).floor (s.frozenSum i)

/-- The total present current over the 24 records (R99, R173). -/
def State.totalPresent (s : State) : Nat := sumOver slots fun i => (s.record i).present
/-- The sum of the published grants over the 24 records (R173). -/
def State.totalGrant (s : State) : Nat := sumOver slots fun i => (s.record i).grant

/-- The same change made in turn to the channels of a feeder list. -/
def State.updateFeeders (s : State) (fs : List Feeder) (g : Channel → Channel) : State :=
  fs.foldl (fun t f => t.setChannel f.channel (g (t.channel f.channel))) s

/-- R12: an unbound channel keeps its settings and its last report. -/
def Channel.unbound (x : Channel) : Channel :=
  { x with owner := none, condition := .idle, share := 0, frozen := 0, clamp := none, tracking := false, mismatch := 0,
           staleTimer := none, lostTimer := none }

/-- R11, R132: a channel bound to a slot waits for its rectifier's first report. -/
def Channel.bound (i : Slot) (x : Channel) : Channel := { x with owner := some i, condition := .waiting }

/-- A channel with share and frozen share 0. -/
def Channel.noShare (x : Channel) : Channel := { x with share := 0, frozen := 0 }

/-- R1, R12: the record at a slot enters FREE and its feeders are unbound. -/
def State.enterFree (s : State) (i : Slot) : State :=
  (s.updateFeeders (s.record i).feeders Channel.unbound).setRecord i DrawRecord.free

/-- Every share and frozen share of a record's feeders becomes 0 (R20, R57, R60). -/
def State.zeroShares (s : State) (i : Slot) : State := s.updateFeeders (s.record i).feeders Channel.noShare

/-- R57, R60, R68, R72: a RELEASING record's present becomes 0, its shares with it, and the release timer starts. -/
def State.endDescent (s : State) (i : Slot) : State :=
  let t := s.zeroShares i
  t.setRecord i { t.record i with present := 0, releaseTimer := some s.timing.releaseTime }

/-! ## Attention occurrences (R186, R187) -/

/-- The attention sources by name (section 9.1). -/
def srcRide : SourceNo := 0
/-- Source FAULT. -/
def srcFault : SourceNo := 1
/-- Source DROP. -/
def srcDrop : SourceNo := 2
/-- Source LATCH. -/
def srcLatch : SourceNo := 3
/-- Source CHANNEL. -/
def srcChannel : SourceNo := 4
/-- Source CLEAR. -/
def srcClear : SourceNo := 5
/-- Source ARRIVAL. -/
def srcArrival : SourceNo := 6
/-- Source LINE. -/
def srcLine : SourceNo := 7

/-- A member added to a set held in rising order, once (R187). -/
def addMember (m : Nat) : List Nat → List Nat
  | [] => [m]
  | x :: xs => if m < x then m :: x :: xs else if m = x then x :: xs else x :: addMember m xs

/-- An occurrence of a source that has a member set (R186). -/
def State.occurMember (s : State) (n : SourceNo) (m : Nat) : State :=
  s.setSource n { s.source n with ip := true, members := addMember m (s.source n).members }

/-- An occurrence of RIDE, LATCH or CLEAR, which have no member set (R186). -/
def State.occur (s : State) (n : SourceNo) : State := s.setSource n { s.source n with ip := true }

/-! ## Fault captures (R194 to R198) -/

/-- The faults the banks record (section 9.3). -/
inductive FaultName where
  | capBreach
  | dropout
  | capacity
  | engageFail
  | frameError
  | silence
  | latched
  | lineError
  | tracking
  | tripped
  | lost
  deriving DecidableEq, Repr

/-- The bank a fault is captured in (section 9.3). -/
def FaultName.bank : FaultName → BankNo
  | .capBreach => 0
  | .dropout => 0
  | .capacity => 1
  | .engageFail => 1
  | .frameError => 2
  | .silence => 2
  | .latched => 2
  | .lineError => 3
  | .tracking => 3
  | .tripped => 3
  | .lost => 3

/-- The code of a fault in its bank (R185). -/
def FaultName.code : FaultName → Nat
  | .capBreach => 1
  | .dropout => 2
  | .capacity => 1
  | .engageFail => 2
  | .frameError => 1
  | .silence => 2
  | .latched => 3
  | .lineError => 1
  | .tracking => 2
  | .tripped => 3
  | .lost => 4

/-- The severity of a fault (section 9.3). -/
def FaultName.severity : FaultName → Severity
  | .capBreach => .breach
  | .dropout => .degraded
  | .capacity => .degraded
  | .engageFail => .degraded
  | .frameError => .notice
  | .silence => .degraded
  | .latched => .degraded
  | .lineError => .notice
  | .tracking => .notice
  | .tripped => .degraded
  | .lost => .degraded

/-- The severity code, which follows the order of severities (R185). -/
def Severity.code : Severity → Nat
  | .none => 0
  | .notice => 1
  | .degraded => 2
  | .breach => 3

/-- What a capture makes of a bank (R195, R196). -/
def FaultBank.take (b : FaultBank) (x : FaultName) (index : Nat) (st : SeqState) : FaultBank :=
  if b.valid = false then
    { valid := true, overflow := false, severity := x.severity, code := x.code, index := index, seqState := st }
  else if b.severity.code < x.severity.code then
    { valid := true, overflow := true, severity := x.severity, code := x.code, index := index, seqState := st }
  else { b with overflow := true }

/-- R197: whether a capture raises FAULT attention: it fills the bank, raises its severity or first sets its overflow. -/
def FaultBank.raises (b : FaultBank) (x : FaultName) : Bool :=
  !b.valid || decide (b.severity.code < x.severity.code) || !b.overflow

/-- A capture reaches its bank, with the Sequencer state recorded with it (R194, R197, R198). -/
def State.captureAs (s : State) (x : FaultName) (index : Nat) (st : SeqState) : State :=
  let t := s.setBank x.bank ((s.bank x.bank).take x index st)
  if (s.bank x.bank).raises x then t.occurMember srcFault x.bank.val else t

/-- A capture that records the Sequencer state standing at it (R198). -/
def State.capture (s : State) (x : FaultName) (index : Nat) : State := s.captureAs x index s.seq.state

/-! ## The pass: caps, snapshot and requests (R25, R26, R44 to R46, R50) -/

/-- R26: the ride cap is in effect in every Sequencer state but NORMAL and CONFIRMING. -/
def SeqState.erInEffect : SeqState → Bool
  | .normal => false
  | .confirming => false
  | .riding => true
  | .holding => true
  | .latched => true
  | .restoring => true
  | .blind => true

/-- R25: the plant cap after the droop factor. -/
def droopedCap (e0 f : Nat) : Nat := e0 * f / 1000

/-- E1 formed from the E0 and f current now (R25). -/
def State.e1 (s : State) : Nat := droopedCap s.engine.e0 s.grid.f

/-- What a snapshot takes of the record at a slot (R45). -/
def State.snapRecord (s : State) (i : Slot) : SnapRecord :=
  let r := s.record i
  { state := r.state, cls := r.cls, rank := r.rank, exempt := r.exempt, floor := r.floor, aim := r.aim, held := r.held,
    floorEff := s.floorEff i, ceff := s.ceff i, present := r.present, online := s.onlineSum i }

/-- R45: the snapshot a pass takes at its start. -/
def State.snapshot (s : State) : Snapshot where
  e0 := s.engine.e0
  f := s.grid.f
  er := s.seq.er
  erInEffect := s.seq.state.erInEffect
  seqState := s.seq.state
  records := ⟨⟨slots.map s.snapRecord⟩, by simp [slots]⟩

/-- The pass state becomes RUNNING with a snapshot taken now, and the rerun flag is clear (R44, R47, R50). -/
def State.startPass (s : State) : State :=
  s.setEngine { s.engine with pass := .running s.snapshot, rerun := false }

/-- R44: a pass request begins a pass where the Engine is idle, and sets the rerun flag otherwise. -/
def State.requestPass (s : State) : State :=
  match s.engine.pass with
  | .idle => s.startPass
  | _ => s.setEngine { s.engine with rerun := true }

/-- What one event asks of the Engine (R118; log entry 3): nothing, an ordinary pass, or an urgent one. -/
inductive Request where
  | none
  | ordinary
  | urgent
  deriving DecidableEq, Repr

/-- Two requests of one event reach the Engine as one, the urgent governing (R118). -/
def Request.join : Request → Request → Request
  | .urgent, _ => .urgent
  | _, .urgent => .urgent
  | .ordinary, _ => .ordinary
  | .none, r => r

/-- R44, R50: a request reaches the Engine as its event completes. An urgent one abandons the pass in flight, or ends the
window of a publication, and begins a pass at once. -/
def State.apply (s : State) : Request → State
  | .none => s
  | .ordinary => s.requestPass
  | .urgent => s.startPass

/-- A request that an event raises only under a condition. -/
def State.requestIf (s : State) (b : Bool) : State := if b then s.requestPass else s

end Sys2Proof.Machine
end

