-- ==== Sys2Proof/Machine/Flags.lean ====
section
/-! DEFINITION. Everything the part reports as flags: the byte codes of its states (R161), the flags of its lines (R141, R80),
the condition bits of a grid frame (R86) with the droop factor (R88) and the profile match (R91, R92), the ATTN pin (R188), the
main status byte (R147) and the outputs of the rectifier lines (R203, R205). -/

namespace Sys2Proof.Machine

/-! ## Byte codes (R161) -/

/-- A byte holding a number's lowest eight bits. -/
def byteOf (n : Nat) : Byte := BitVec.ofNat 8 n

/-- 1 for yes, on or set, 0 for no, off or clear (R161). -/
def flagByte (b : Bool) : Byte := if b then 1 else 0

/-- The record state codes (R161). -/
def RecordState.code : RecordState → Nat
  | .free => 0
  | .pending => 1
  | .engaging => 2
  | .active => 3
  | .releasing => 4
  | .shed => 5
  | .faulted => 6

/-- The class codes (R161). -/
def DrawClass.code : DrawClass → Nat
  | .a => 0
  | .b => 1
  | .c => 2

/-- The channel condition codes (R161). -/
def Condition.code : Condition → Nat
  | .idle => 0
  | .waiting => 1
  | .online => 2
  | .stale => 3
  | .notReady => 4
  | .lost => 5
  | .tripped => 6

/-- The Sequencer state codes (R161). -/
def SeqState.code : SeqState → Nat
  | .normal => 0
  | .confirming => 1
  | .riding => 2
  | .holding => 3
  | .latched => 4
  | .restoring => 5
  | .blind => 6

/-- The profile mode codes (R161). -/
def ProfileMode.code : ProfileMode → Nat
  | .all => 0
  | .any => 1

/-- The operating mode of a GRANT frame (section 10.3). -/
inductive GrantMode where
  | idle
  | opened
  | engage
  | run
  | ride
  | standby
  deriving DecidableEq, Repr

/-- The mode codes of a GRANT frame (section 10.3). -/
def modeCode : GrantMode → Nat
  | .idle => 0
  | .opened => 1
  | .engage => 2
  | .run => 3
  | .ride => 4
  | .standby => 5

/-! ## Line flags (R141, R80, R177) -/

/-- PARITY in the byte of READ LINE. -/
def flagParity : Byte := 0x01
/-- FRAMING in the byte of READ LINE. -/
def flagFraming : Byte := 0x02
/-- CHECK in the byte of READ LINE. -/
def flagCheck : Byte := 0x04
/-- COLLISION in the byte of READ LINE. -/
def flagCollision : Byte := 0x08
/-- OVERRUN in the byte of READ LINE. -/
def flagOverrun : Byte := 0x10
/-- SUM in the byte of READ LINE. -/
def flagSum : Byte := 0x80

/-- The flags a damaged character sets (R77, R121). -/
def damageFlags : CharFault → Byte
  | .parity => flagParity
  | .framing => flagFraming
  | .both => flagParity ||| flagFraming

/-- R141, R80: flags set on a line stay set, and SUM with them. -/
def raised (old mask : Byte) : Byte := old ||| mask ||| flagSum

/-- R141, R80: whether setting flags takes one or more of them from clear to set. -/
def raisesNew (old mask : Byte) : Bool := decide (old ||| mask ≠ old)

/-- R141, R80: the LINE attention and the LINE_ERROR capture of one character, frame or reply, with the line as member. -/
def State.reportLine (s : State) (number : Nat) : State := (s.occurMember srcLine number).capture .lineError number

/-- R141: one character, frame or reply sets flags of a rectifier line. -/
def State.raiseLine (s : State) (l : LineNo) (mask : Byte) : State :=
  let x := s.line l
  let t := s.setLine l { x with flags := raised x.flags mask }
  if raisesNew x.flags mask then t.reportLine l.val else t

/-- R80: one character or frame sets flags of the grid line, whose number is 8. -/
def State.raiseGrid (s : State) (mask : Byte) : State :=
  let t := s.setGrid { s.grid with flags := raised s.grid.flags mask }
  if raisesNew s.grid.flags mask then t.reportLine 8 else t

/-! ## Condition bits, droop factor and match (R86, R88, R91, R92) -/

/-- R86: the condition byte of a frame with the thresholds in force; every comparison is strict. -/
def conditionBits (g : GridSettings) (voltage unbalance : Nat) (deviation : Int) (pj : Bool) : Byte :=
  let bit := fun (b : Bool) (weight : Nat) => if b then weight else 0
  byteOf (bit (decide (voltage < g.level1)) 128 + bit (decide (voltage < g.level2)) 64 + bit (decide (voltage < g.level3)) 32
    + bit (decide (g.high < voltage)) 16 + bit (decide (deviation < -(g.uf : Int))) 8
    + bit (decide ((g.overFreq : Int) < deviation)) 4 + bit (decide (g.ub < unbalance)) 2 + bit pj 1)

/-- R88: the droop factor of a clamped deviation; the difference from 1000 is signed and exact. -/
def droopFactor (g : GridSettings) (d : Int) : Nat :=
  if d < -(g.db : Int) then (max (g.fmin : Int) (1000 - (g.k : Int) * (-d - (g.db : Int)))).toNat else 1000

/-- R91: whether a profile matches a frame's condition byte. -/
def Profile.fits (p : Profile) (conditions : Byte) : Bool :=
  p.enabled && decide (p.mask ≠ 0) &&
    match p.mode with
    | .all => decide (conditions &&& p.mask = p.polarity &&& p.mask)
    | .any => decide ((conditions ^^^ p.polarity) &&& p.mask ≠ p.mask)

/-- The matchable profiles in falling priority (R92, R93). -/
def matchable : List ProfileNo := [0, 1, 2, 3, 4, 5, 6, 7]

/-- R92: the match of a frame is the lowest-numbered matchable profile that fits it. -/
def State.matchOf (s : State) (conditions : Byte) : Option ProfileNo :=
  matchable.find? fun p => (s.profile p).fits conditions

/-! ## Pins and the main status byte -/

/-- The attention sources from the highest priority down (section 9.1). -/
def sourcesDown : List SourceNo := [0, 1, 2, 3, 4, 5, 6, 7]

/-- R188: the first source of a list, taken in falling priority, that qualifies: a source in service blocks itself and every
lower one. -/
def firstQualifying (s : State) : List SourceNo → Option SourceNo
  | [] => none
  | n :: ns =>
    if (s.source n).ius then none
    else if (s.source n).ip && (s.source n).ie then some n
    else firstQualifying s ns

/-- R188, R189: the qualifying source of highest priority. -/
def State.qualifying (s : State) : Option SourceNo := firstQualifying s sourcesDown

/-- R188, R205: the ATTN pin is asserted while some source qualifies and no reset lasts. -/
def State.attn (s : State) : Bool := decide (s.resetState = .running) && s.qualifying.isSome

/-- R148: ready for transfer. -/
def Phase.rft : Phase → Bool
  | .command => true
  | .execution => false
  | .result => true

/-- R148: direction, part to supervisor. -/
def Phase.dir : Phase → Bool
  | .command => false
  | .execution => false
  | .result => true

/-- The PHASE field of the main status byte (section 10.4). -/
def Phase.code : Phase → Nat
  | .command => 0
  | .execution => 1
  | .result => 2

/-- R147: the pass state is RUNNING, the publication window included. -/
def Pass.inFlight : Pass → Bool
  | .idle => false
  | .running _ => true
  | .window _ => true

/-- R147, section 10.4: the main status byte a STATUS transaction shifts out. -/
def State.mainStatus (s : State) : Byte :=
  let bit := fun (b : Bool) (weight : Nat) => if b then weight else 0
  byteOf (bit s.port.phase.rft 128 + bit s.port.phase.dir 64 + 16 * s.port.phase.code + bit s.engine.pass.inFlight 8
    + bit (decide (s.seq.state ≠ .normal)) 4 + bit s.attn 2 + bit s.port.slip 1)

/-- R127, R203, R205: the driver of a rectifier line is enabled exactly while a reply is being sent. -/
def State.driverEnable (s : State) (l : LineNo) : Bool :=
  match (s.line l).receiver with
  | .hunting => false
  | .receiving _ => false
  | .sending _ _ => decide (s.resetState = .running)

/-- What the TX output of a rectifier line carries: a high level, or a character being sent. -/
inductive TxOutput where
  | high
  | character (value : Byte)
  deriving DecidableEq, Repr

/-- R203, R205: the TX output of a rectifier line is high whenever its driver is disabled, so throughout a reset; while a reply is
being sent it carries the first character of the frame that has not been read back yet. -/
def State.txOutput (s : State) (l : LineNo) : TxOutput :=
  if s.driverEnable l then
    match (s.line l).receiver with
    | .sending frame n => .character (frame.getD n 0x00)
    | _ => .high
  else .high

end Sys2Proof.Machine
end

