-- ==== Sys2Proof/Machine/Shares.lean ====
section
/-! DEFINITION. The share split of a record's present over its feeders (R62 to R65), the cuts of a present, capacity events
(R66 to R69) and the ARRIVAL occurrence (R73). -/

namespace Sys2Proof.Machine

/-! ## The split (R62 to R64) -/

/-- An ONLINE feeder with current still to be placed on it. -/
structure OpenFeeder where
  channel : Chan
  weight : Nat
  capacity : Nat
  deriving DecidableEq, Repr

/-- The sum of the weights of the open set (R63). -/
def weightSum (os : List OpenFeeder) : Nat := (os.map (·.weight)).sum

/-- R63: what a feeder of the open set is offered of the amount `r` still to place. -/
def offer (w r : Nat) (o : OpenFeeder) : Nat := r * o.weight / w

/-- R64: one unit more to each of the first feeders of the open set, until the leftover is used up. -/
def placeLeftover (w r : Nat) : Nat → List OpenFeeder → List (Chan × Nat)
  | _, [] => []
  | 0, o :: os => (o.channel, offer w r o) :: placeLeftover w r 0 os
  | left + 1, o :: os => (o.channel, offer w r o + 1) :: placeLeftover w r left os

/-- R63, R64: the rounds of the split, `r` still to place on the open set. `fuel` bounds the rounds: each round but the last
fixes a feeder, so one more than the feeders suffice. -/
def placeRounds : Nat → List OpenFeeder → Nat → List (Chan × Nat)
  | 0, _, _ => []
  | fuel + 1, os, r =>
    let w := weightSum os
    let full := os.filter fun o => decide (o.capacity ≤ offer w r o)
    let rest := os.filter fun o => !decide (o.capacity ≤ offer w r o)
    if full.isEmpty then placeLeftover w r (r - (os.map (offer w r)).sum) os
    else full.map (fun o => (o.channel, o.capacity)) ++ placeRounds fuel rest (r - (full.map (·.capacity)).sum)

/-- The ONLINE feeders of a list, in feeder-list order (R63). -/
def State.openFeeders (s : State) (fs : List Feeder) : List OpenFeeder :=
  (fs.filter fun f => decide ((s.channel f.channel).condition = .online)).map fun f =>
    { channel := f.channel, weight := f.weight, capacity := (s.channel f.channel).usable }

/-- The share a placement gives a channel: 0 where it places none on it. -/
def placedOn (c : Chan) (ps : List (Chan × Nat)) : Nat :=
  match ps.find? fun p => decide (p.1 = c) with
  | some p => p.2
  | none => 0

/-- R62: the placement of the remainder of a record's present on its ONLINE feeders. -/
def State.placement (s : State) (i : Slot) : List (Chan × Nat) :=
  let fs := (s.record i).feeders
  placeRounds (fs.length + 1) (s.openFeeders fs) ((s.record i).present - s.frozenSum i)

/-- R62: the share of one feeder channel after a re-split, given the placement on the ONLINE feeders. -/
def Channel.resplit (ps : List (Chan × Nat)) (c : Chan) (x : Channel) : Channel :=
  match x.condition with
  | .stale => { x with share := x.frozen }
  | .online => { x with share := placedOn c ps }
  | _ => { x with share := 0 }

/-- R62: all the shares of the record at a slot are replaced at once. -/
def State.reSplit (s : State) (i : Slot) : State :=
  let ps := s.placement i
  (s.record i).feeders.foldl (fun t f => t.setChannel f.channel ((t.channel f.channel).resplit ps f.channel)) s

/-! ## Changes of present (R58, R59, R67, R73) -/

/-- R73: a change of an ACTIVE record's present that makes it equal to the target, where it differed before, is an ARRIVAL. -/
def State.noteArrival (s : State) (i : Slot) (before : Nat) : State :=
  let r := s.record i
  if r.state = .active ∧ r.present = r.target ∧ before ≠ r.target then s.occurMember srcArrival i.val else s

/-- A record's present is written and its shares are re-split in the same event (R74), with the ARRIVAL it makes. -/
def State.movePresent (s : State) (i : Slot) (p : Nat) : State :=
  let t := s.setRecord i { s.record i with present := p }
  (t.reSplit i).noteArrival i (s.record i).present

/-- R59: frozen shares are lowered, taking `excess` off them from the last STALE feeder toward the first. The list is the
feeder list reversed. -/
def State.lowerFrozen (s : State) : Nat → List Feeder → State
  | _, [] => s
  | excess, f :: fs =>
    let x := s.channel f.channel
    if x.condition = .stale then
      let cut := min x.frozen excess
      (s.setChannel f.channel { x with frozen := x.frozen - cut, share := x.frozen - cut }).lowerFrozen (excess - cut) fs
    else s.lowerFrozen excess fs

/-- R58, R59: the present of an ACTIVE record is cut to a grant below it, its frozen shares first lowered to fit where they
sum to more; that lowering is a capacity event and raises a pass request. -/
def State.cutToGrant (s : State) (i : Slot) : State :=
  let r := s.record i
  if r.state = .active ∧ r.grant < r.present then
    let excess := s.frozenSum i - r.grant
    let t := s.lowerFrozen excess r.feeders.reverse
    (t.movePresent i r.grant).requestIf (decide (0 < excess))
  else s

/-! ## Capacity events (R66 to R69) -/

/-- R20: the record at a slot becomes FAULTED for want of capacity, with its present and shares 0. -/
def State.faultRecord (s : State) (i : Slot) (x : FaultName) : State :=
  let t := s.zeroShares i
  let u := t.setRecord i { t.record i with state := .faulted, present := 0, engageTimer := none }
  (u.capture x i.val).occurMember srcDrop i.val

/-- R67, R68, R69: what a capacity event does to the record at a slot, before its pass request. -/
def State.absorbCapacity (s : State) (i : Slot) : State :=
  let r := s.record i
  let k := s.carrying i
  match r.state with
  | .active =>
    if k < r.floor then s.faultRecord i .capacity
    else if k < r.present then s.movePresent i k
    else s.reSplit i
  | .releasing =>
    if r.present = 0 then s
    else if k < r.floor then s.endDescent i
    else if k < r.present then s.movePresent i k
    else s.reSplit i
  | _ => s

/-- R66: a capacity event at a channel reaches the live record that owns it at once, and raises a pass request. -/
def State.capacityEvent (s : State) (c : Chan) : State :=
  match (s.channel c).owner with
  | none => s
  | some i => if (s.record i).live then (s.absorbCapacity i).requestPass else s

/-- R66, R131: the three kinds of condition a capacity event tells apart. -/
def Condition.kind : Condition → Nat
  | .online => 1
  | .stale => 2
  | _ => 0

/-- R124, R131: whether a change of a channel's record is a capacity event: its condition passes between ONLINE, STALE and the
conditions of usable capacity 0, or its usable capacity or its clamp changes. -/
def capacityChanged (old new : Channel) : Bool :=
  decide (old.condition.kind ≠ new.condition.kind ∨ old.usable ≠ new.usable ∨ old.clamp ≠ new.clamp)

end Sys2Proof.Machine
end

