-- ==== Sys2Proof/Machine/Ramp.lean ====
section
/-! DEFINITION. The Ramp Unit's timers (chapter 3): the step timer's expiry, taken at once or deferred (R53 to R57), and the
expiry of a record's engage and release timers (R19, R22). -/

namespace Sys2Proof.Machine

/-- R205: nothing but the reset rows acts while a reset lasts. -/
def whileRunning (s : State) (f : State → State) : Host.Outcome State Fault Refusal :=
  .next (if s.resetState = .running then f s else s)

/-! ## The work of a step expiry (R55 to R57) -/

/-- R55: the aim of an ENGAGING or ACTIVE record follows its target down. -/
def DrawRecord.lowerAim (r : DrawRecord) : DrawRecord :=
  if (r.state = .engaging ∨ r.state = .active) ∧ r.target < r.aim then { r with aim := max r.target (r.aim - r.downRate) }
  else r

/-- R57: the release bound of a RELEASING record. -/
def State.releaseBound (s : State) (i : Slot) : Nat := max (s.record i).floor (s.frozenSum i)

/-- R56, R57: a step expiry moves the present of one record. -/
def State.stepPresent (s : State) (i : Slot) : State :=
  let r := s.record i
  match r.state with
  | .active =>
    let limit := min r.grant (s.ceff i)
    if r.present < limit then s.movePresent i (min (r.present + r.upRate) limit) else s
  | .releasing =>
    if r.present = 0 then s
    else if s.releaseBound i < r.present then s.movePresent i (max (r.present - r.downRate) (s.releaseBound i))
    else s.endDescent i
  | _ => s

/-- R55, R57: whether a step expiry at a record raises a pass request: its aim is lowered, or its RELEASING present changes. -/
def DrawRecord.stepRequests (r : DrawRecord) : Bool :=
  decide (r.lowerAim ≠ r) || (decide (r.state = .releasing) && decide (r.present ≠ 0))

/-- R54 to R57: what a step expiry does to one record, apart from its pass request. -/
def State.stepRecord (s : State) (i : Slot) : State := (s.setRecord i (s.record i).lowerAim).stepPresent i

/-- R54: a step expiry is taken: every record is stepped on its own, and the requests it raises reach the Engine as one. -/
def State.takeStep (s : State) : State :=
  (slots.foldl State.stepRecord s).requestIf (slots.any fun i => (s.record i).stepRequests)

/-- R53: the period that begins at an expiry has the length last configured. -/
def State.restartStep (s : State) : State := s.setRamp { s.ramp with stepTimer := some s.timing.stepPeriod }

/-- STEP_TIMER_EXPIRY (R53, R54): taken at once while the Engine is idle, deferred while a pass is in flight. -/
def execStepTimerExpiry (s : State) : Host.Outcome State Fault Refusal :=
  whileRunning s fun s =>
    if s.ramp.stepTimer.isSome then
      let t := s.restartStep
      if s.engine.pass.inFlight then t.setRamp { t.ramp with deferred := t.ramp.deferred + 1 } else t.takeStep
    else s

/-! ## Engagement and release (R19, R22, R70 to R72) -/

/-- R19, R71: the engagement of a record completes. -/
def State.completeEngagement (s : State) (i : Slot) : State :=
  let r := s.record i
  if r.floor ≤ s.onlineSum i then
    let t := s.setRecord i { r with state := .active, present := r.floor, engageTimer := none }
    (t.reSplit i).occurMember srcArrival i.val
  else s.faultRecord i .engageFail

/-- ENGAGE_TIMER_EXPIRY (R19): a timer that does not run does not expire (log entry 4). -/
def execEngageTimerExpiry (i : Slot) (s : State) : Host.Outcome State Fault Refusal :=
  whileRunning s fun s =>
    if (s.record i).state = .engaging ∧ (s.record i).engageTimer.isSome then (s.completeEngagement i).requestPass else s

/-- RELEASE_TIMER_EXPIRY (R22). -/
def execReleaseTimerExpiry (i : Slot) (s : State) : Host.Outcome State Fault Refusal :=
  whileRunning s fun s =>
    if (s.record i).state = .releasing ∧ (s.record i).releaseTimer.isSome then (s.enterFree i).requestPass else s

end Sys2Proof.Machine
end

