-- ==== Sys2Proof/Machine/Operands.lean ====
section
/-! DEFINITION. The operand forms: how parameters and results lie in bytes (R161, R162, section 10.5), the range checks of every
command (R159, R163 to R185), and the FETCH, GRANT and grid frames (sections 10.2 and 10.3). Fields are read by exact
arithmetic on a byte's value. -/

namespace Sys2Proof.Machine

/-! ## Bytes and fields -/

/-- A two-byte quantity, most significant byte first (R161). -/
def wordOf (hi lo : Byte) : Nat := hi.toNat * 256 + lo.toNat

/-- A quantity sent as two bytes, most significant first (R161). -/
def bytes2 (n : Nat) : List Byte := [byteOf (n / 256), byteOf n]

/-- A sum over records, sent as three bytes, most significant first (R161). -/
def bytes3 (n : Nat) : List Byte := [byteOf (n / 65536), byteOf (n / 256), byteOf n]

/-- The two bytes of a command's two-byte field. -/
def wordBytes (w : Word) : List Byte := bytes2 w.toNat

/-- A two-byte field that may be absent reads 0xFFFF when absent (R161). -/
def optBytes2 : Option Nat → List Byte
  | none => [0xFF, 0xFF]
  | some n => bytes2 n

/-- A one-byte field that may be none reads 0xFF when none (R161). -/
def optByte : Option Nat → Byte
  | none => 0xFF
  | some n => byteOf n

/-- A 16-bit number read in two's complement (R82, R202). -/
def signed16 (n : Nat) : Int := if n < 32768 then (n : Int) else (n : Int) - 65536

/-- A signed quantity sent as two bytes in two's complement (R161). -/
def signedBytes2 (d : Int) : List Byte := bytes2 ((d + 65536) % 65536).toNat

/-- Whether bit `k` of a byte is 1. -/
def bitOf (b : Byte) (k : Nat) : Bool := decide (b.toNat / 2 ^ k % 2 = 1)

/-- R123, R79, R202: the sum of a frame's bytes modulo 256. -/
def checkSum (bs : List Byte) : Nat := (bs.map (·.toNat)).sum % 256

/-- R202: the check byte that makes the sum of a frame's bytes 0 modulo 256. -/
def checkByte (bs : List Byte) : Byte := byteOf (256 - checkSum bs)

/-! ## Selectors (R146) -/

/-- The kinds of a port transaction (R146). -/
inductive Selector where
  | status
  | put
  | take
  | abort
  | unknown
  deriving DecidableEq, Repr

/-- R146: the kind of transaction a selector byte begins. -/
def selectorOf (b : Byte) : Selector :=
  if b = Config.statusSelector then .status
  else if b = Config.putSelector then .put
  else if b = Config.takeSelector then .take
  else if b = Config.abortSelector then .abort
  else .unknown

/-! ## Fields with a range (R161) -/

/-- A number that must lie in a range, or the range check fails. -/
def inRange (lo hi n : Nat) : Option Nat := if lo ≤ n ∧ n ≤ hi then some n else none

/-- A slot number (R1). -/
def slotOf (b : Byte) : Option Slot := if h : b.toNat < 24 then some ⟨b.toNat, h⟩ else none
/-- A channel number (R130). -/
def chanOf (b : Byte) : Option Chan := if h : b.toNat < 32 then some ⟨b.toNat, h⟩ else none
/-- A profile number (R94), and the nine line numbers of READ LINE (R177). -/
def nineOf (b : Byte) : Option (Fin 9) := if h : b.toNat < 9 then some ⟨b.toNat, h⟩ else none
/-- A source number (R184). -/
def sourceOf (b : Byte) : Option SourceNo := if h : b.toNat < 8 then some ⟨b.toNat, h⟩ else none
/-- A bank number (R185). -/
def bankOf (b : Byte) : Option BankNo := if h : b.toNat < 4 then some ⟨b.toNat, h⟩ else none
/-- A scan condition code (R170). -/
def scanOf (b : Byte) : Option (Fin 7) := if h : b.toNat < 7 then some ⟨b.toNat, h⟩ else none

/-- A yes/no byte: 1 or 0 (R161). -/
def boolOf (b : Byte) : Option Bool :=
  if b.toNat = 0 then some false else if b.toNat = 1 then some true else none

/-- A profile mode byte (R161). -/
def modeOf (b : Byte) : Option ProfileMode :=
  if b.toNat = 0 then some .all else if b.toNat = 1 then some .any else none

/-- R162: the class in bits 7 and 6; the value 3 fails. -/
def classOf (b : Byte) : Option DrawClass :=
  match b.toNat / 64 with
  | 0 => some .a
  | 1 => some .b
  | 2 => some .c
  | _ => none

/-- R162: the rank in bits 5 to 3. -/
def rankOf (b : Byte) : Fin 8 := Fin.ofNat 8 (b.toNat / 8)

/-- R162: the byte that carries a class, a rank, LOCK and EXEMPT; bit 0 is 0. -/
def attrBits (cls : DrawClass) (rank : Fin 8) (lock exempt : Bool) : Byte :=
  byteOf (64 * cls.code + 8 * rank.val + (if lock then 4 else 0) + (if exempt then 2 else 0))

/-- R162: the byte a READ DRAW reports class, rank, LOCK and EXEMPT in. -/
def attrByte (r : DrawRecord) : Byte := attrBits r.cls r.rank r.lock r.exempt

/-- A current of 0 to 4095 du (R161). -/
def currentOf (hi lo : Byte) : Option Nat := inRange 0 4095 (wordOf hi lo)

/-- R10, R163: the feeder entries, each a channel and a weight. -/
def feedersOf : List Byte → Option (List Feeder)
  | [] => some []
  | [_] => none
  | c :: w :: rest => do
    let channel ← chanOf c
    let weight ← inRange 1 15 w.toNat
    let fs ← feedersOf rest
    some ({ channel := channel, weight := weight } :: fs)

/-- R163: no channel is named twice in a list. -/
def channelsDistinct (fs : List Feeder) : Bool := decide (fs.map (·.channel)).Nodup

/-! ## Commands (R159, section 10.5) -/

/-- The code byte of a command (section 10.5). -/
def CmdCode.byte : CmdCode → Byte
  | .openDraw => 0x11
  | .setTarget => 0x12
  | .amendDraw => 0x13
  | .retireDraw => 0x14
  | .readDraw => 0x15
  | .scanDraws => 0x16
  | .setCap => 0x20
  | .readPlant => 0x21
  | .setChannel => 0x30
  | .rearmChannel => 0x31
  | .readChannel => 0x32
  | .readLine => 0x33
  | .loadProfile => 0x40
  | .readProfile => 0x41
  | .configureGrid => 0x42
  | .configureTiming => 0x43
  | .readGrid => 0x44
  | .resume => 0x45
  | .senseAttention => 0x50
  | .endService => 0x51
  | .setAttentionMask => 0x52
  | .readFaultBank => 0x58
  | .clearFaultBank => 0x59

/-- The 23 commands of the part (section 8.1). -/
def allCodes : List CmdCode :=
  [.openDraw, .setTarget, .amendDraw, .retireDraw, .readDraw, .scanDraws, .setCap, .readPlant, .setChannel, .rearmChannel,
   .readChannel, .readLine, .loadProfile, .readProfile, .configureGrid, .configureTiming, .readGrid, .resume,
   .senseAttention, .endService, .setAttentionMask, .readFaultBank, .clearFaultBank]

/-- R149: the command a code byte names, if the code is known. -/
def codeOf (b : Byte) : Option CmdCode := allCodes.find? fun c => decide (c.byte = b)

/-- R150, section 8.1: the expected parameter count of a command; OPEN DRAW's is first 12. -/
def CmdCode.paramCount : CmdCode → Nat
  | .openDraw => 12
  | .setTarget => 3
  | .amendDraw => 4
  | .retireDraw => 1
  | .readDraw => 1
  | .scanDraws => 3
  | .setCap => 2
  | .readPlant => 0
  | .setChannel => 4
  | .rearmChannel => 1
  | .readChannel => 1
  | .readLine => 1
  | .loadProfile => 13
  | .readProfile => 1
  | .configureGrid => 19
  | .configureTiming => 8
  | .readGrid => 1
  | .resume => 0
  | .senseAttention => 0
  | .endService => 1
  | .setAttentionMask => 1
  | .readFaultBank => 1
  | .clearFaultBank => 1

/-- R163: the range checks of OPEN DRAW. -/
def openParams (slot tag attrs : Byte) (floor ceiling target : Option Nat) (up down : Byte) (fs : List Byte) :
    Option OpenParams := do
  let slot ← slotOf slot
  let tag ← inRange 1 254 tag.toNat
  let cls ← classOf attrs
  let floor ← floor
  let ceiling ← ceiling
  let target ← target
  let upRate ← inRange 1 255 up.toNat
  let downRate ← inRange 1 255 down.toNat
  let feeders ← feedersOf fs
  if 1 ≤ floor ∧ floor ≤ ceiling ∧ channelsDistinct feeders = true then
    some { slot, tag, cls, rank := rankOf attrs, lock := bitOf attrs 2, exempt := bitOf attrs 1, floor, ceiling, target,
           upRate, downRate, feeders }
  else none

/-- R171: the value range of each scan condition; where it is not examined every value is accepted. -/
def scanValueOk (condition : Fin 7) (value : Nat) : Bool :=
  match condition with
  | 0 => decide (value ≤ 6)
  | 1 => true
  | 2 => decide (value ≤ 4095)
  | 3 => decide (value ≤ 4095)
  | 4 => decide (value ≤ 7)
  | 5 => decide (value ≤ 2)
  | 6 => true

/-- R94, R178: the range checks of a profile's fields. -/
def profileOf (enabled mask polarity mode confirm r1 r0 tracking hold period s1 s0 : Byte) : Option Profile := do
  let enabled ← boolOf enabled
  let mode ← modeOf mode
  let confirm ← inRange 1 15 confirm.toNat
  let retain ← inRange 0 1000 (wordOf r1 r0)
  let tracking ← boolOf tracking
  let hold ← inRange 1 255 hold.toNat
  let period ← inRange 1 255 period.toNat
  let step ← inRange 1 4095 (wordOf s1 s0)
  some { enabled, mask, polarity, mode, confirm, retain, tracking, hold, period, step }

/-- R180: the range checks of CONFIGURE GRID, on its two-byte fields as numbers. -/
def gridSettingsOf (l1 l2 l3 high uf overFreq ub : Nat) (db k : Byte) (fmin : Nat) (silence : Byte) :
    Option GridSettings := do
  let level1 ← inRange 0 1999 l1
  let level2 ← inRange 0 1999 l2
  let level3 ← inRange 0 1999 l3
  let high ← inRange 0 1999 high
  let uf ← inRange 0 999 uf
  let overFreq ← inRange 0 999 overFreq
  let ub ← inRange 0 1000 ub
  let fmin ← inRange 0 1000 fmin
  let silence ← inRange 1 255 silence.toNat
  some { level1, level2, level3, high, uf, overFreq, ub, db := db.toNat, k := k.toNat, fmin, silence }

/-- R181: the range checks of CONFIGURE TIMING. -/
def timingOf (step stale lost engage release tolerance trackCount limit : Byte) : Option Timing := do
  let stepPeriod ← inRange 1 255 step.toNat
  let staleTime ← inRange 2 255 stale.toNat
  let lostTime ← inRange 1 255 lost.toNat
  let engageTime ← inRange 1 255 engage.toNat
  let releaseTime ← inRange 1 255 release.toNat
  let trackCount ← inRange 1 15 trackCount.toNat
  let reentryLimit ← inRange 1 15 limit.toNat
  some { stepPeriod, staleTime, lostTime, engageTime, releaseTime, tolerance := tolerance.toNat, trackCount, reentryLimit }

/-- R159: the range checks of a command on its parameter bytes alone, with the fields they stand for. A list of another length
than the command's fails. -/
def parseCmd : CmdCode → List Byte → Option Cmd
  | .openDraw, slot :: tag :: attrs :: f1 :: f0 :: c1 :: c0 :: t1 :: t0 :: up :: down :: n :: fs =>
    if 1 ≤ n.toNat ∧ n.toNat ≤ 4 ∧ fs.length = 2 * n.toNat then
      (openParams slot tag attrs (currentOf f1 f0) (currentOf c1 c0) (currentOf t1 t0) up down fs).map Cmd.openDraw
    else none
  | .setTarget, [slot, t1, t0] => do
    let slot ← slotOf slot
    let target ← currentOf t1 t0
    some (.setTarget slot target)
  | .amendDraw, [slot, attrs, up, down] => do
    let slot ← slotOf slot
    let cls ← classOf attrs
    let upRate ← inRange 1 255 up.toNat
    let downRate ← inRange 1 255 down.toNat
    some (.amendDraw slot cls (rankOf attrs) (bitOf attrs 2) (bitOf attrs 1) upRate downRate)
  | .retireDraw, [slot] => (slotOf slot).map Cmd.retireDraw
  | .readDraw, [slot] => (slotOf slot).map Cmd.readDraw
  | .scanDraws, [condition, v1, v0] => do
    let condition ← scanOf condition
    if scanValueOk condition (wordOf v1 v0) then some (.scanDraws condition (wordOf v1 v0)) else none
  | .setCap, [e1, e0] => some (.setCap (wordOf e1 e0))
  | .readPlant, [] => some .readPlant
  | .setChannel, [channel, enabled, c1, c0] => do
    let channel ← chanOf channel
    let enabled ← boolOf enabled
    let capacity ← currentOf c1 c0
    some (.setChannel channel enabled capacity)
  | .rearmChannel, [channel] => (chanOf channel).map Cmd.rearmChannel
  | .readChannel, [channel] => (chanOf channel).map Cmd.readChannel
  | .readLine, [line] => (nineOf line).map Cmd.readLine
  | .loadProfile, [index, enabled, mask, polarity, mode, confirm, r1, r0, tracking, hold, period, s1, s0] => do
    let index ← nineOf index
    let profile ← profileOf enabled mask polarity mode confirm r1 r0 tracking hold period s1 s0
    some (.loadProfile index profile)
  | .readProfile, [index] => (nineOf index).map Cmd.readProfile
  | .configureGrid, [a1, a0, b1, b0, c1, c0, d1, d0, e1, e0, f1, f0, g1, g0, db, k, m1, m0, silence] =>
    (gridSettingsOf (wordOf a1 a0) (wordOf b1 b0) (wordOf c1 c0) (wordOf d1 d0) (wordOf e1 e0) (wordOf f1 f0) (wordOf g1 g0)
      db k (wordOf m1 m0) silence).map Cmd.configureGrid
  | .configureTiming, [step, stale, lost, engage, release, tolerance, trackCount, limit] =>
    (timingOf step stale lost engage release tolerance trackCount limit).map Cmd.configureTiming
  | .readGrid, [view] => (boolOf view).map Cmd.readGrid
  | .resume, [] => some .resume
  | .senseAttention, [] => some .senseAttention
  | .endService, [source] => (sourceOf source).map Cmd.endService
  | .setAttentionMask, [mask] => some (.setAttentionMask mask)
  | .readFaultBank, [bank] => (bankOf bank).map Cmd.readFaultBank
  | .clearFaultBank, [bank] => (bankOf bank).map Cmd.clearFaultBank
  | _, _ => none

/-! ## The same encodings the other way (section 10.5) -/

/-- The code a command is sent under (section 10.5). -/
def Cmd.code : Cmd → CmdCode
  | .openDraw _ => .openDraw
  | .setTarget _ _ => .setTarget
  | .amendDraw _ _ _ _ _ _ _ => .amendDraw
  | .retireDraw _ => .retireDraw
  | .readDraw _ => .readDraw
  | .scanDraws _ _ => .scanDraws
  | .setCap _ => .setCap
  | .readPlant => .readPlant
  | .setChannel _ _ _ => .setChannel
  | .rearmChannel _ => .rearmChannel
  | .readChannel _ => .readChannel
  | .readLine _ => .readLine
  | .loadProfile _ _ => .loadProfile
  | .readProfile _ => .readProfile
  | .configureGrid _ => .configureGrid
  | .configureTiming _ => .configureTiming
  | .readGrid _ => .readGrid
  | .resume => .resume
  | .senseAttention => .senseAttention
  | .endService _ => .endService
  | .setAttentionMask _ => .setAttentionMask
  | .readFaultBank _ => .readFaultBank
  | .clearFaultBank _ => .clearFaultBank

/-- R163: the parameter bytes of an OPEN DRAW. -/
def OpenParams.bytes (p : OpenParams) : List Byte :=
  [byteOf p.slot.val, byteOf p.tag, attrBits p.cls p.rank p.lock p.exempt] ++ bytes2 p.floor ++ bytes2 p.ceiling
    ++ bytes2 p.target ++ [byteOf p.upRate, byteOf p.downRate, byteOf p.feeders.length]
    ++ p.feeders.flatMap fun f => [byteOf f.channel.val, byteOf f.weight]

/-- R179: a profile's fields in the order and encoding of LOAD PROFILE after the index. -/
def Profile.bytes (p : Profile) : List Byte :=
  [flagByte p.enabled, p.mask, p.polarity, byteOf p.mode.code, byteOf p.confirm] ++ bytes2 p.retain
    ++ [flagByte p.tracking, byteOf p.hold, byteOf p.period] ++ bytes2 p.step

/-- R180: the settings of CONFIGURE GRID in the order and encoding of its parameters. -/
def GridSettings.bytes (g : GridSettings) : List Byte :=
  bytes2 g.level1 ++ bytes2 g.level2 ++ bytes2 g.level3 ++ bytes2 g.high ++ bytes2 g.uf ++ bytes2 g.overFreq ++ bytes2 g.ub
    ++ [byteOf g.db, byteOf g.k] ++ bytes2 g.fmin ++ [byteOf g.silence]

/-- R181: the settings of CONFIGURE TIMING in the order and encoding of its parameters. -/
def Timing.bytes (t : Timing) : List Byte :=
  [byteOf t.stepPeriod, byteOf t.staleTime, byteOf t.lostTime, byteOf t.engageTime, byteOf t.releaseTime, byteOf t.tolerance,
   byteOf t.trackCount, byteOf t.reentryLimit]

/-- The parameter bytes of a command, in the order they are sent (section 10.5). -/
def Cmd.params : Cmd → List Byte
  | .openDraw p => p.bytes
  | .setTarget slot target => byteOf slot.val :: bytes2 target
  | .amendDraw slot cls rank lock exempt up down =>
    [byteOf slot.val, attrBits cls rank lock exempt, byteOf up, byteOf down]
  | .retireDraw slot => [byteOf slot.val]
  | .readDraw slot => [byteOf slot.val]
  | .scanDraws condition value => byteOf condition.val :: bytes2 value
  | .setCap e0 => bytes2 e0
  | .readPlant => []
  | .setChannel channel enabled capacity => byteOf channel.val :: flagByte enabled :: bytes2 capacity
  | .rearmChannel channel => [byteOf channel.val]
  | .readChannel channel => [byteOf channel.val]
  | .readLine line => [byteOf line.val]
  | .loadProfile index profile => byteOf index.val :: profile.bytes
  | .readProfile index => [byteOf index.val]
  | .configureGrid settings => settings.bytes
  | .configureTiming timing => timing.bytes
  | .readGrid settingsView => [flagByte settingsView]
  | .resume => []
  | .senseAttention => []
  | .endService source => [byteOf source.val]
  | .setAttentionMask mask => [mask]
  | .readFaultBank bank => [byteOf bank.val]
  | .clearFaultBank bank => [byteOf bank.val]

/-- R163: the ranges of the fields of an OPEN DRAW. -/
def OpenParams.inRange (p : OpenParams) : Bool :=
  decide (1 ≤ p.tag ∧ p.tag ≤ 254 ∧ 1 ≤ p.floor ∧ p.floor ≤ p.ceiling ∧ p.ceiling ≤ 4095 ∧ p.target ≤ 4095
    ∧ 1 ≤ p.upRate ∧ p.upRate ≤ 255 ∧ 1 ≤ p.downRate ∧ p.downRate ≤ 255 ∧ 1 ≤ p.feeders.length ∧ p.feeders.length ≤ 4)
    && p.feeders.all (fun f => decide (1 ≤ f.weight ∧ f.weight ≤ 15)) && channelsDistinct p.feeders

/-- R94, R178: the ranges of a profile's fields. -/
def Profile.inRange (p : Profile) : Bool :=
  decide (1 ≤ p.confirm ∧ p.confirm ≤ 15 ∧ p.retain ≤ 1000 ∧ 1 ≤ p.hold ∧ p.hold ≤ 255 ∧ 1 ≤ p.period ∧ p.period ≤ 255
    ∧ 1 ≤ p.step ∧ p.step ≤ 4095)

/-- R180: the ranges of the grid settings. -/
def GridSettings.inRange (g : GridSettings) : Bool :=
  decide (g.level1 ≤ 1999 ∧ g.level2 ≤ 1999 ∧ g.level3 ≤ 1999 ∧ g.high ≤ 1999 ∧ g.uf ≤ 999 ∧ g.overFreq ≤ 999 ∧ g.ub ≤ 1000
    ∧ g.db ≤ 255 ∧ g.k ≤ 255 ∧ g.fmin ≤ 1000 ∧ 1 ≤ g.silence ∧ g.silence ≤ 255)

/-- R181: the ranges of the timing settings. -/
def Timing.inRange (t : Timing) : Bool :=
  decide (1 ≤ t.stepPeriod ∧ t.stepPeriod ≤ 255 ∧ 2 ≤ t.staleTime ∧ t.staleTime ≤ 255 ∧ 1 ≤ t.lostTime ∧ t.lostTime ≤ 255
    ∧ 1 ≤ t.engageTime ∧ t.engageTime ≤ 255 ∧ 1 ≤ t.releaseTime ∧ t.releaseTime ≤ 255 ∧ t.tolerance ≤ 255
    ∧ 1 ≤ t.trackCount ∧ t.trackCount ≤ 15 ∧ 1 ≤ t.reentryLimit ∧ t.reentryLimit ≤ 15)

/-- R159, R163 to R185: whether the fields of a command lie in their ranges. -/
def Cmd.inRange : Cmd → Bool
  | .openDraw p => p.inRange
  | .setTarget _ target => decide (target ≤ 4095)
  | .amendDraw _ _ _ _ _ up down => decide (1 ≤ up ∧ up ≤ 255 ∧ 1 ≤ down ∧ down ≤ 255)
  | .retireDraw _ => true
  | .readDraw _ => true
  | .scanDraws condition value => scanValueOk condition value && decide (value ≤ 65535)
  | .setCap e0 => decide (e0 ≤ 65535)
  | .readPlant => true
  | .setChannel _ _ capacity => decide (capacity ≤ 4095)
  | .rearmChannel _ => true
  | .readChannel _ => true
  | .readLine _ => true
  | .loadProfile _ p => p.inRange
  | .readProfile _ => true
  | .configureGrid g => g.inRange
  | .configureTiming t => t.inRange
  | .readGrid _ => true
  | .resume => true
  | .senseAttention => true
  | .endService _ => true
  | .setAttentionMask _ => true
  | .readFaultBank _ => true
  | .clearFaultBank _ => true

/-- R152: the commands that wait while a pass is in flight. -/
def Cmd.waits : Cmd → Bool
  | .openDraw _ => true
  | .setTarget _ _ => true
  | .amendDraw _ _ _ _ _ _ _ => true
  | .retireDraw _ => true
  | .setCap _ => true
  | .setChannel _ _ _ => true
  | .rearmChannel _ => true
  | .readDraw _ => false
  | .scanDraws _ _ => false
  | .readPlant => false
  | .readChannel _ => false
  | .readLine _ => false
  | .loadProfile _ _ => false
  | .readProfile _ => false
  | .configureGrid _ => false
  | .configureTiming _ => false
  | .readGrid _ => false
  | .resume => false
  | .senseAttention => false
  | .endService _ => false
  | .setAttentionMask _ => false
  | .readFaultBank _ => false
  | .clearFaultBank _ => false

/-! ## Results (R154, R155, section 10.4) -/

/-- A DONE result: completion 0x00, the CLAMP bit where a value was clamped, then the data bytes. -/
def doneBytes (clamped : Bool) (data : List Byte) : List Byte := 0x00 :: flagByte clamped :: data

/-- Reason bit SLOT. -/
def reasonSlot : Nat := 64
/-- Reason bit TAG. -/
def reasonTag : Nat := 32
/-- Reason bit CHAN. -/
def reasonChan : Nat := 16
/-- Reason bit LOCK. -/
def reasonLock : Nat := 8
/-- Reason bit STATE. -/
def reasonState : Nat := 4
/-- Reason bit BAND. -/
def reasonBand : Nat := 2

/-- The reason bit of a state check that fails, 0 of one that holds (R159). -/
def failsWith (b : Bool) (reason : Nat) : Nat := if b then reason else 0

/-- A FAILED result with the reason bits of the checks that failed. -/
def failedBytes (reasons : Nat) : List Byte := [0x40, byteOf reasons]
/-- The INVALID result, whose reason is RANGE alone. -/
def invalidBytes : List Byte := [0x80, 0x80]
/-- The OVERTAKEN result, whose reason is 0x00 (R153). -/
def overtakenBytes : List Byte := [0xC0, 0x00]

/-! ## Frames on the lines (sections 10.2 and 10.3) -/

/-- Section 5.3: the line of a channel. -/
def lineOf (c : Chan) : LineNo := ⟨c.val / 4, by omega⟩

/-- Section 5.3: the channel at an address of a line. -/
def chanAt (l : LineNo) (address : Fin 4) : Chan := ⟨4 * l.val + address.val, by omega⟩

/-- The status bits of a FETCH's second byte, in bits 7 to 5 (section 10.3). -/
def statusNat (ready fault limit : Bool) : Nat :=
  (if ready then 128 else 0) + (if fault then 64 else 0) + (if limit then 32 else 0)

/-- The last status a channel keeps of a FETCH (R124, R176). -/
def statusByte (ready fault limit : Bool) : Byte := byteOf (statusNat ready fault limit)

/-- The four bytes of a channel's FETCH (section 10.3), its ignored bit clear. -/
def fetchBytes (c : Chan) (ready fault limit : Bool) (measured : BitVec 12) : List Byte :=
  let body := [byteOf (Config.fetchLead + c.val % 4), byteOf (statusNat ready fault limit + measured.toNat / 256),
    byteOf measured.toNat]
  body ++ [checkByte body]

/-- The five bytes of a GRANT (R127, R203). -/
def grantBytes (address : Nat) (mode : GrantMode) (share pubNumber : Nat) : List Byte :=
  let body := [byteOf (Config.grantLead + address), byteOf (32 * modeCode mode + share / 256), byteOf share,
    byteOf pubNumber]
  body ++ [checkByte body]

/-- The nine bytes of a grid frame (section 10.2) with its check byte as received. -/
def gridBytes (second : Byte) (voltage unbalance deviation : Word) (check : Byte) : List Byte :=
  byteOf Config.gridLead :: second :: (wordBytes voltage ++ wordBytes unbalance ++ wordBytes deviation) ++ [check]

end Sys2Proof.Machine
end

