-- ==== Sys2Proof/Machine/Sequencer.lean ====
section
/-! DEFINITION. The Ride-Through Sequencer (chapter 5): what a valid frame, the silence event, its two timers and RESUME do to
it, and the profile, grid, timing and RESUME commands as they are taken (R178 to R183). -/

namespace Sys2Proof.Machine

/-! ## Snapshots and the ride cap (R99, R100, R112) -/

/-- R99: the sum of present, saturating at 65535. -/
def State.rideReference (s : State) : Nat := min s.totalPresent 65535

/-- R99: a live record's held value is its present where that is above 0, and its floor otherwise. -/
def DrawRecord.hold (r : DrawRecord) : DrawRecord :=
  if r.live then { r with held := some (if 0 < r.present then r.present else r.floor) } else r

/-- R108: a record without a held value. -/
def DrawRecord.unhold (r : DrawRecord) : DrawRecord := { r with held := none }

/-- R99, R112: the snapshot of I0 and the held values on leaving NORMAL or CONFIRMING. -/
def State.rideSnapshot (s : State) : State :=
  (s.setSeq { s.seq with i0 := s.rideReference }).mapRecords DrawRecord.hold

/-- A fraction of I0 in per mille (R100, R112). -/
def fraction (i0 perMille : Nat) : Nat := i0 * perMille / 1000

/-- R100: the fraction a profile keeps, limited by the frame's voltage where it tracks it. -/
def Profile.ratio (p : Profile) (voltage : Nat) : Nat := if p.tracking then min p.retain (min voltage 1000) else p.retain

/-- The profile in use; profile 8 where none is (R96 has one in use in every state that reads it). -/
def State.inUseProfile (s : State) : Profile := s.profile (s.seq.inUse.getD 8)

/-- R100: Er recomputed from I0 and the profile in use, for a frame's voltage. -/
def State.recompute (s : State) (voltage : Nat) : State :=
  s.setSeq { s.seq with er := fraction s.seq.i0 (s.inUseProfile.ratio voltage) }

/-! ## Entries (R101, R108, R111, R153) -/

/-- R153: an entry into RIDING or BLIND overtakes the waiting command. -/
def State.overtake (s : State) : State :=
  match s.port.waiting with
  | none => s
  | some _ => s.setPort { s.port with phase := .result, waiting := none, result := overtakenBytes, readPos := 0 }

/-- R99 to R101: the Sequencer is in RIDING under profile `q`, no run in progress and no timer of its own running, with Er
computed for the frame, RIDE raised and the waiting command overtaken. -/
def State.enterRiding (s : State) (q : ProfileNo) (voltage : Nat) : State :=
  let t := s.setSeq { s.seq with state := .riding, inUse := some q, candidate := none, count := 0, holdTimer := none,
                                 restoreTimer := none }
  ((t.recompute voltage).occur srcRide).overtake

/-- R102, R115: the Sequencer enters HOLDING under profile `p`, whose hold time the hold timer starts with. -/
def State.enterHolding (s : State) (p : ProfileNo) : State :=
  s.setSeq { s.seq with state := .holding, inUse := some p, holdTimer := some (s.profile p).hold }

/-- R104, R109: the Sequencer enters RESTORING under the profile in use. -/
def State.enterRestoring (s : State) : State :=
  s.setSeq { s.seq with state := .restoring, holdTimer := none, restoreTimer := some s.inUseProfile.period }

/-- R108: the Sequencer reaches NORMAL. -/
def State.reachNormal (s : State) : State :=
  ((s.setSeq { s.seq with state := .normal, inUse := none, reentries := 0, resumeRequired := false, holdTimer := none,
                          restoreTimer := none }).mapRecords DrawRecord.unhold).occur srcClear

/-- The profile of higher priority, that is the lower number (R92). -/
def higher (p q : ProfileNo) : ProfileNo := if p ≤ q then p else q

/-! ## A valid frame (R97, R98, R102, R103, R105, R107, R114, R115) -/

/-- R98: after a match in CONFIRMING or the first of a run, the count is compared with the candidate's confirm count. -/
def State.confirmRun (s : State) (c : ProfileNo) (n voltage : Nat) : State × Request :=
  if (s.profile c).confirm ≤ n then (s.rideSnapshot.enterRiding c voltage, .urgent)
  else (s.setSeq { s.seq with state := .confirming, candidate := some c, count := n }, .none)

/-- R97: a frame in NORMAL. -/
def State.frameInNormal (s : State) (m : Option ProfileNo) (voltage : Nat) : State × Request :=
  match m with
  | none => (s, .none)
  | some q => s.confirmRun q 1 voltage

/-- R98: a frame in CONFIRMING. -/
def State.frameInConfirming (s : State) (m : Option ProfileNo) (gap : Bool) (voltage : Nat) : State × Request :=
  match m with
  | none => (s.setSeq { s.seq with state := .normal, candidate := none, count := 0 }, .ordinary)
  | some q =>
    if gap then s.confirmRun q 1 voltage
    else s.confirmRun (higher (s.seq.candidate.getD q) q) (s.seq.count + 1) voltage

/-- R102: a frame in RIDING. -/
def State.frameInRiding (s : State) (m : Option ProfileNo) (voltage : Nat) : State × Request :=
  let p := s.seq.inUse.getD 8
  match m with
  | none => (s.enterHolding p, .none)
  | some q =>
    if q < p then ((s.setSeq { s.seq with inUse := some q }).recompute voltage, .ordinary)
    else if s.inUseProfile.tracking then
      let t := s.recompute voltage
      (t, if t.seq.er = s.seq.er then .none else .ordinary)
    else (s, .none)

/-- R103, R105: a frame in HOLDING or LATCHED; a match continues the same ride. -/
def State.frameInHold (s : State) (m : Option ProfileNo) (voltage : Nat) : State × Request :=
  match m with
  | none => (s, .none)
  | some q => (s.enterRiding (higher (s.seq.inUse.getD 8) q) voltage, .urgent)

/-- R108: the re-entry count rises unless it equals the limit, and resume-required sets when it reaches the limit. -/
def State.countReentry (s : State) : State :=
  let n := if s.seq.reentries = s.timing.reentryLimit then s.seq.reentries else s.seq.reentries + 1
  s.setSeq { s.seq with reentries := n, resumeRequired := s.seq.resumeRequired || decide (n = s.timing.reentryLimit) }

/-- R107: a frame in RESTORING; a match is a re-entry, with I0 taken anew and the held values kept. -/
def State.frameInRestoring (s : State) (m : Option ProfileNo) (voltage : Nat) : State × Request :=
  match m with
  | none => (s, .none)
  | some q => (((s.setSeq { s.seq with i0 := s.rideReference }).countReentry).enterRiding q voltage, .urgent)

/-- R114, R115: the first valid frame in BLIND. -/
def State.frameInBlind (s : State) (m : Option ProfileNo) (voltage : Nat) : State × Request :=
  if s.seq.i0 = 0 then
    let out := s.reachNormal.frameInNormal m voltage
    (out.1, Request.ordinary.join out.2)
  else (s.enterHolding 8).frameInHold m voltage

/-- A valid frame reaches the Sequencer with its match, gap indication and clamped voltage (R82). -/
def State.seqFrame (s : State) (m : Option ProfileNo) (gap : Bool) (voltage : Nat) : State × Request :=
  match s.seq.state with
  | .normal => s.frameInNormal m voltage
  | .confirming => s.frameInConfirming m gap voltage
  | .riding => s.frameInRiding m voltage
  | .holding => s.frameInHold m voltage
  | .latched => s.frameInHold m voltage
  | .restoring => s.frameInRestoring m voltage
  | .blind => s.frameInBlind m voltage

/-! ## Silence and the Sequencer's timers (R104, R106, R111 to R113) -/

/-- R112, R113: what the silence event does to I0, the held values and Er, by the state it leaves. -/
def State.silenceCap (s : State) : State :=
  let retain := (s.profile 8).retain
  if s.seq.state.erInEffect then s.setSeq { s.seq with er := min s.seq.er (fraction s.seq.i0 retain) }
  else
    let t := s.rideSnapshot
    t.setSeq { t.seq with er := fraction t.seq.i0 retain }

/-- R111: the Sequencer enters BLIND; the capture records the state being left. -/
def State.enterBlind (s : State) : State :=
  let t := s.silenceCap
  let u := t.setSeq { t.seq with state := .blind, inUse := some 8, candidate := none, count := 0, holdTimer := none,
                                 restoreTimer := none }
  ((u.captureAs .silence 8 s.seq.state).occur srcRide).overtake

/-- R104: the hold timer expires in HOLDING. -/
def State.holdExpiry (s : State) : State × Request :=
  if s.seq.resumeRequired then
    let t := s.setSeq { s.seq with state := .latched, holdTimer := none }
    ((t.occur srcLatch).captureAs .latched (s.seq.inUse.getD 8).val .holding, .none)
  else (s.enterRestoring, .ordinary)

/-- R106: the restore timer expires in RESTORING; Er rises, saturating at 65535, and is compared with E1. -/
def State.restoreExpiry (s : State) : State :=
  let er := min (s.seq.er + s.inUseProfile.step) 65535
  let t := s.setSeq { s.seq with er := er, restoreTimer := some s.inUseProfile.period }
  if s.e1 ≤ er then t.reachNormal else t

/-! ## Profile commands (R93, R94, R178, R179) -/

/-- R94: a profile that may not be loaded: the one in use while the ride cap is in effect, or the candidate of a run. -/
def State.profileBusy (s : State) (p : ProfileNo) : Bool :=
  (s.seq.state.erInEffect && decide (s.seq.inUse = some p))
    || (decide (s.seq.state = .confirming) && decide (s.seq.candidate = some p))

/-- R93: of profile 8, only the retain, hold time, restore period and restore step are stored. -/
def profileToStore (index : ProfileNo) (old p : Profile) : Profile :=
  if index = 8 then { old with retain := p.retain, hold := p.hold, period := p.period, step := p.step } else p

/-- LOAD PROFILE taken (R94, R178). -/
def performLoadProfile (index : ProfileNo) (p : Profile) (s : State) : State × List Byte :=
  if s.profileBusy index then (s, failedBytes reasonState)
  else
    (s.setSeq { s.seq with profiles := s.seq.profiles.set index (profileToStore index (s.profile index) p) },
      doneBytes false [])

/-- READ PROFILE taken (R179). -/
def performReadProfile (index : ProfileNo) (s : State) : State × List Byte :=
  (s, doneBytes false (s.profile index).bytes)

/-! ## CONFIGURE GRID and CONFIGURE TIMING (R87, R52, R142, R108, R180, R181) -/

/-- CONFIGURE GRID taken (R87): all eleven settings, and nothing recomputed. -/
def performConfigureGrid (g : GridSettings) (s : State) : State × List Byte :=
  (s.setGrid { s.grid with settings := g }, doneBytes false [])

/-- R142: a channel whose mismatch count exceeds a new tracking count has it lowered. -/
def Channel.capMismatch (n : Nat) (x : Channel) : Channel := { x with mismatch := min x.mismatch n }

/-- R108: a new re-entry limit lowers a count above it, and resume-required sets where the count then equals the limit. -/
def State.newLimit (s : State) (limit : Nat) : State :=
  let n := min s.seq.reentries limit
  s.setSeq { s.seq with reentries := n, resumeRequired := s.seq.resumeRequired || decide (n = limit) }

/-- CONFIGURE TIMING taken (R181): all eight settings in one event, with the consequences of R142 and R108. -/
def performConfigureTiming (x : Timing) (s : State) : State × List Byte :=
  (((s.setTiming x).mapChannels (Channel.capMismatch x.trackCount)).newLimit x.reentryLimit, doneBytes false [])

/-! ## READ GRID and RESUME (R182, R183, R109) -/

/-- R182: the 21 data bytes of view 0. -/
def State.seqBytes (s : State) : List Byte :=
  [byteOf s.seq.state.code, optByte (s.seq.inUse.map (·.val)), optByte (s.seq.candidate.map (·.val)), byteOf s.seq.count]
    ++ bytes2 s.seq.i0 ++ bytes2 s.seq.er
    ++ [byteOf s.seq.reentries, byteOf s.timing.reentryLimit, flagByte s.seq.resumeRequired, flagByte s.grid.frameSeen]
    ++ bytes2 s.grid.voltage ++ bytes2 s.grid.unbalance ++ signedBytes2 s.grid.deviation
    ++ [byteOf s.grid.sequence, flagByte s.grid.pj, s.grid.conditions]

/-- READ GRID taken (R182): view 0, or the settings in the order and encoding of CONFIGURE GRID. -/
def performReadGrid (settingsView : Bool) (s : State) : State × List Byte :=
  (s, doneBytes false (if settingsView then s.grid.settings.bytes else s.seqBytes))

/-- RESUME taken (R109, R183). -/
def performResume (s : State) : State × List Byte :=
  if s.seq.state = .latched then
    let t := (s.setSeq { s.seq with resumeRequired := false, reentries := 0 }).enterRestoring
    (t.requestPass, doneBytes false [])
  else (s, failedBytes reasonState)

end Sys2Proof.Machine
end

