-- ==== Sys2Proof/Machine/GridLine.lean ====
section
/-! DEFINITION. The grid line (chapter 4): characters and frames (R76 to R81), the taking of a valid frame (R82 to R92), the
silence timer (R85) and the Sequencer's hold and restore timers (R104, R106). -/

namespace Sys2Proof.Machine

/-! ## Taking a valid frame (R82) -/

/-- R82: the deviation is clamped to -999 to +999. -/
def clampDeviation (d : Int) : Int := max (-999) (min d 999)

/-- R84: the gap indication of a frame's sequence number. -/
def gapOf (seqRef : Option Nat) (sequence : Nat) : Bool :=
  match seqRef with
  | none => false
  | some r => decide (sequence ≠ (r + 1) % 16)

/-- Stages 1 to 5 of R82: Grid Intake after a valid frame with these raw values. -/
def Grid.intake (g : Grid) (sequence : Nat) (pj : Bool) (rawV rawU : Nat) (rawD : Int) : Grid :=
  let v := min rawV 1999
  let u := min rawU 1000
  let d := clampDeviation rawD
  { g with frameSeen := true, voltage := v, unbalance := u, deviation := d, sequence := sequence, pj := pj,
           conditions := conditionBits g.settings v u d pj, seqRef := some sequence, f := droopFactor g.settings d,
           silenceTimer := some g.settings.silence }

/-- R82: a valid frame is taken as one event, and what it requests reaches the Engine as the event completes (R118). -/
def State.validFrame (s : State) (sequence : Nat) (pj : Bool) (rawV rawU : Nat) (rawD : Int) : State :=
  let gap := gapOf s.grid.seqRef sequence
  let t := s.setGrid (s.grid.intake sequence pj rawV rawU rawD)
  let out := t.seqFrame (t.matchOf t.grid.conditions) gap t.grid.voltage
  let droop := if t.grid.f = s.grid.f then Request.none else Request.ordinary
  out.1.apply (droop.join out.2)

/-- R79, R81, R82: a complete grid frame is checked; one that sums to 0 and carries VALID is taken. -/
def State.gridFrameDone (s : State) (bs : List Byte) : State :=
  let t := s.setGrid { s.grid with receiver := .hunting }
  match bs with
  | [lead, b2, v1, v0, u1, u0, d1, d0, check] =>
    if checkSum [lead, b2, v1, v0, u1, u0, d1, d0, check] = 0 then
      if bitOf b2 0 then
        t.validFrame (b2.toNat / 16) (bitOf b2 1) (wordOf v1 v0) (wordOf u1 u0) (signed16 (wordOf d1 d0))
      else t.capture .frameError 8
    else t.raiseGrid flagCheck
  | _ => t

/-! ## Characters on the grid line (R76 to R78) -/

/-- R77, R78: the frame open on the grid line is discarded with the flags it sets. -/
def State.giveUpGrid (s : State) (mask : Byte) : State := (s.setGrid { s.grid with receiver := .hunting }).raiseGrid mask

/-- R205: a character whose start bit fell before the end of a reset is not received. -/
def State.hearGrid (s : State) (f : State → State) : State :=
  if s.underway.grid then s.setUnderway { s.underway with grid := false } else f s

/-- R76: a sound character is received on the grid line. -/
def State.receiveGridByte (s : State) (b : Byte) : State :=
  match s.grid.receiver with
  | .hunting => if b.toNat = Config.gridLead then s.setGrid { s.grid with receiver := .receiving [b] } else s
  | .receiving taken =>
    if taken.length = 8 then s.gridFrameDone (taken ++ [b])
    else s.setGrid { s.grid with receiver := .receiving (taken ++ [b]) }

/-- R76, R205: a sound character arrives on the grid line. -/
def State.gridCharacter (s : State) (b : Byte) : State := s.hearGrid fun t => t.receiveGridByte b

/-- The bytes of the frame open on the grid line. -/
def GridReceiver.taken : GridReceiver → List Byte
  | .hunting => []
  | .receiving bs => bs

/-- The characters of a grid frame still to come, as `stillToCome` of a rectifier line (log entry 2). -/
def gridStillToCome (taken frame : List Byte) : List Byte :=
  if taken.isPrefixOf frame && decide (taken.length < frame.length) then frame.drop taken.length else frame

/-! ## The rows of the grid line -/

/-- GRID_LINE_CHARACTER (R76). -/
def execGridLineCharacter (b : Byte) (s : State) : Host.Outcome State Fault Refusal :=
  whileRunning s fun s => s.gridCharacter b

/-- GRID_FRAME (R76, R79, R81, R82): the characters of the frame, or those still to come of one that has begun, arrive. -/
def execGridFrame (second : Byte) (v u d : Word) (check : Byte) (s : State) : Host.Outcome State Fault Refusal :=
  whileRunning s fun s =>
    (gridStillToCome s.grid.receiver.taken (gridBytes second v u d check)).foldl State.gridCharacter s

/-- GRID_FRAME_TIME_LIMIT (R78): the limit runs only while a frame is open. -/
def execGridFrameTimeLimit (s : State) : Host.Outcome State Fault Refusal :=
  whileRunning s fun s =>
    match s.grid.receiver with
    | .hunting => s
    | .receiving _ => s.giveUpGrid flagFraming

/-- GRID_CHARACTER_ERROR (R77). -/
def execGridCharacterError (d : CharFault) (s : State) : Host.Outcome State Fault Refusal :=
  whileRunning s fun s => s.hearGrid fun t => t.giveUpGrid (damageFlags d)

/-! ## Timers of Grid Intake and the Sequencer -/

/-- SILENCE_TIMER_EXPIRY (R85, R111). -/
def execSilenceTimerExpiry (s : State) : Host.Outcome State Fault Refusal :=
  whileRunning s fun s =>
    if s.grid.silenceTimer.isSome then
      ((s.setGrid { s.grid with silenceTimer := none, seqRef := none }).enterBlind).apply .urgent
    else s

/-- HOLD_TIMER_EXPIRY (R104). -/
def execHoldTimerExpiry (s : State) : Host.Outcome State Fault Refusal :=
  whileRunning s fun s =>
    if s.seq.state = .holding ∧ s.seq.holdTimer.isSome then s.holdExpiry.1.apply s.holdExpiry.2 else s

/-- RESTORE_TIMER_EXPIRY (R106): both outcomes raise one pass request (R108, R118). -/
def execRestoreTimerExpiry (s : State) : Host.Outcome State Fault Refusal :=
  whileRunning s fun s =>
    if s.seq.state = .restoring ∧ s.seq.restoreTimer.isSome then s.restoreExpiry.apply .ordinary else s

end Sys2Proof.Machine
end

