-- ==== Sys2Proof/Machine/Lines.lean ====
section
/-! DEFINITION. The rectifier lines (chapter 6): characters and frames (R120 to R123), the taking of a valid FETCH (R124), the
condition machine (R132 to R135), LIMIT and tracking (R138, R139), the reply (R125 to R129), and the stale and lost timers. -/

namespace Sys2Proof.Machine

/-! ## The condition machine (R132 to R136) -/

/-- The condition a valid FETCH moves a channel to (R132, R133, R135, R136). -/
def Condition.afterFetch (c : Condition) (ready fault : Bool) : Condition :=
  match c with
  | .idle => .idle
  | .tripped => .tripped
  | _ => if fault then .tripped else if ready then .online else .notReady

/-- R133: entry to TRIPPED, NOT_READY or LOST clears the clamp, the tracking flag and the mismatch count. -/
def Channel.cleared (x : Channel) : Channel := { x with clamp := none, tracking := false, mismatch := 0 }

/-- R65, R132: a channel that leaves STALE has its frozen share released and its share 0 until the next split, which comes before the
reply to its FETCH (R124). DESIGN CHOICE (unsafe; log entry 27): a frozen share that a publication has lowered goes the same way, though
R59 says that a STALE channel is answered with the lowered value if it fetches again. -/
def Channel.released (x : Channel) : Channel :=
  if x.condition = .stale then { x with share := 0, frozen := 0 } else x

/-- Stages 1, 2 and 4 of R124: the report is stored, the condition moves, and the timers follow the condition reached. -/
def Channel.report (x : Channel) (t : Timing) (ready fault limit : Bool) (measured : Nat) : Channel :=
  let y := { x with lastMeasured := measured, lastStatus := statusByte ready fault limit }
  match x.condition with
  | .idle => y
  | .tripped => y
  | _ =>
    let z := y.released
    match x.condition.afterFetch ready fault with
    | .online => { z with condition := .online, staleTimer := some t.staleTime, lostTimer := none }
    | .notReady => { z.cleared with condition := .notReady, staleTimer := none, lostTimer := some t.lostTime }
    | _ => { z.cleared with condition := .tripped, staleTimer := none, lostTimer := none }

/-! ## LIMIT and tracking (R138, R139) -/

/-- R139: whether a FETCH from a channel in a condition can be tested: one from IDLE, WAITING, STALE, LOST or TRIPPED is not, whatever
condition it reaches. -/
def Condition.tested : Condition → Bool
  | .idle => false
  | .waiting => false
  | .online => true
  | .stale => false
  | .notReady => true
  | .lost => false
  | .tripped => false

/-- R139: the tracking check of an ONLINE channel against the share it had when the FETCH was taken. -/
def Channel.track (x : Channel) (t : Timing) (share measured : Nat) : Channel :=
  if measured + t.tolerance < share then
    let n := min (x.mismatch + 1) t.trackCount
    if n = t.trackCount then { x with mismatch := n, clamp := some measured, tracking := true }
    else { x with mismatch := n }
  else { x with mismatch := 0, tracking := false, clamp := none }

/-- Stage 3 of R124, by the state of the owning record: LIMIT clamps a feeder of an ACTIVE record (R138), and a FETCH with
LIMIT clear is tested against the share the channel had when it was taken (R139). `old` is the channel before the FETCH. -/
def Channel.limitAndTrack (x old : Channel) (t : Timing) (owner : RecordState) (limit : Bool) (measured : Nat) : Channel :=
  if x.condition = .online then
    if limit then (if owner = .active then { x with clamp := some measured } else x)
    else if owner ≠ .free ∧ old.condition.tested then x.track t old.share measured
    else x
  else x

/-! ## Taking a valid FETCH (R124) -/

/-- The state of the record that owns a channel; FREE where none does. -/
def State.ownerState (s : State) (x : Channel) : RecordState :=
  match x.owner with
  | none => .free
  | some i => (s.record i).state

/-- R137: the CHANNEL attention of a change of a channel's record: it enters STALE, LOST, TRIPPED or NOT_READY, or its tracking
flag turns on. -/
def channelNoted (old new : Channel) : Bool :=
  (decide (old.condition ≠ new.condition) &&
      match new.condition with
      | .stale => true
      | .lost => true
      | .tripped => true
      | .notReady => true
      | _ => false)
    || (!old.tracking && new.tracking)

/-- R137: the LINK faults of a change of a channel's record. -/
def channelFaults (old new : Channel) : List FaultName :=
  (if old.condition ≠ new.condition ∧ new.condition = .tripped then [.tripped] else [])
    ++ (if old.condition ≠ new.condition ∧ new.condition = .lost then [.lost] else [])
    ++ (if old.tracking = false ∧ new.tracking = true then [.tracking] else [])

/-- R137: the attention and the captures of a change of a channel's record. -/
def State.noteChannel (s : State) (c : Chan) (old new : Channel) : State :=
  let t := if channelNoted old new then s.occurMember srcChannel c.val else s
  (channelFaults old new).foldl (fun u x => u.capture x c.val) t

/-- R125, R126: a FETCH taken makes a reply pending on its line; an older one is dropped and sets OVERRUN. -/
def State.queueReply (s : State) (c : Chan) : State :=
  let l := lineOf c
  let x := s.line l
  let t := s.setLine l { x with reply := some c }
  if x.reply.isSome then t.raiseLine l flagOverrun else t

/-- The channel record a valid FETCH leaves (stages 1 to 4 of R124). -/
def State.fetched (s : State) (c : Chan) (ready fault limit : Bool) (measured : Nat) : Channel :=
  let x := s.channel c
  (x.report s.timing ready fault limit measured).limitAndTrack x s.timing (s.ownerState x) limit measured

/-- R124: a valid FETCH for a channel is taken; one for a channel that is not enabled changes nothing. -/
def State.takeFetch (s : State) (c : Chan) (ready fault limit : Bool) (measured : Nat) : State :=
  let x := s.channel c
  if x.enabled then
    let y := s.fetched c ready fault limit measured
    let t := s.setChannel c y
    let u := if capacityChanged x y then t.capacityEvent c else t
    (u.noteChannel c x y).queueReply c
  else s

/-! ## Characters on a line (R120 to R123, R129) -/

/-- R121 to R123, R129: the frame open on a line, or the reply being sent, is given up with the flags it sets. -/
def State.giveUp (s : State) (l : LineNo) (mask : Byte) : State :=
  (s.setLine l { s.line l with receiver := .hunting }).raiseLine l mask

/-- R123: a complete FETCH is checked; a valid one is taken, another is discarded. -/
def State.fetchFrame (s : State) (l : LineNo) (bs : List Byte) : State :=
  let t := s.setLine l { s.line l with receiver := .hunting }
  match bs with
  | [lead, status, low, check] =>
    if checkSum [lead, status, low, check] = 0 then
      t.takeFetch (chanAt l (Fin.ofNat 4 lead.toNat)) (bitOf status 7) (bitOf status 6) (bitOf status 5)
        (status.toNat % 16 * 256 + low.toNat)
    else t.raiseLine l flagCheck
  | _ => t

/-- R120: whether a character is a FETCH lead byte. -/
def isFetchLead (b : Byte) : Bool := decide (Config.fetchLead ≤ b.toNat ∧ b.toNat < Config.fetchLead + 4)

/-- R205: a character whose start bit fell before the end of a reset is not received. -/
def State.hearLine (s : State) (l : LineNo) (f : State → State) : State :=
  if s.underway.lines.get l then s.setUnderway { s.underway with lines := s.underway.lines.set l false } else f s

/-- R120, R129: a sound character is received on a line. -/
def State.receiveByte (s : State) (l : LineNo) (b : Byte) : State :=
  match (s.line l).receiver with
  | .hunting => if isFetchLead b then s.setLine l { s.line l with receiver := .receiving [b] } else s
  | .receiving taken =>
    if taken.length = 3 then s.fetchFrame l (taken ++ [b])
    else s.setLine l { s.line l with receiver := .receiving (taken ++ [b]) }
  | .sending frame n =>
    if frame[n]? = some b then
      if frame.length ≤ n + 1 then s.setLine l { s.line l with receiver := .hunting }
      else s.setLine l { s.line l with receiver := .sending frame (n + 1) }
    else s.giveUp l flagCollision

/-- R120, R205: a sound character arrives on a line. -/
def State.lineCharacter (s : State) (l : LineNo) (b : Byte) : State := s.hearLine l fun t => t.receiveByte l b

/-- A run of sound characters on a line. -/
def State.lineCharacters (s : State) (l : LineNo) (bs : List Byte) : State := bs.foldl (fun t b => t.lineCharacter l b) s

/-- The characters of a frame that are still to come on a line whose receiver has taken a first part of it; all of them
otherwise (log entry 2). -/
def stillToCome (taken frame : List Byte) : List Byte :=
  if taken.isPrefixOf frame && decide (taken.length < frame.length) then frame.drop taken.length else frame

/-- The bytes of the frame open on a line. -/
def Receiver.taken : Receiver → List Byte
  | .hunting => []
  | .receiving bs => bs
  | .sending _ _ => []

/-! ## The reply (R125, R127, R128) -/

/-- R128: the mode and the share of a reply to a channel. A feeder of an ACTIVE record that is not ONLINE is answered STANDBY (R19), a
STALE one with the share the Ramp Unit holds for it (R127, R59). -/
def State.replyOf (s : State) (x : Channel) : GrantMode × Nat :=
  match x.owner with
  | none => (.idle, 0)
  | some i =>
    match (s.record i).state with
    | .free => (.idle, 0)
    | .pending => (.opened, 0)
    | .engaging => (.engage, 0)
    | .active =>
      if x.condition = .online then
        match s.seq.state with
        | .normal => (.run, x.share)
        | .confirming => (.run, x.share)
        | .restoring => (.run, x.share)
        | .riding => (.ride, x.share)
        | .holding => (.ride, x.share)
        | .latched => (.ride, x.share)
        | .blind => (.ride, x.share)
      else (.standby, if x.condition = .stale then x.share else 0)
    | .releasing => if 0 < (s.record i).present then (.run, x.share) else (.opened, 0)
    | .shed => (.opened, 0)
    | .faulted => (.opened, 0)

/-- R127, R203: a GRANT begins: its five bytes are formed from the mode, share and publication number of this moment. -/
def State.beginReply (s : State) (l : LineNo) (c : Chan) : State :=
  let answer := s.replyOf (s.channel c)
  s.setLine l { s.line l with reply := none,
                              receiver := .sending (grantBytes (c.val % 4) answer.1 answer.2 s.engine.pubNumber) 0 }

/-! ## The rows of the rectifier lines -/

/-- RECTIFIER_LINE_CHARACTER (R120). -/
def execRectifierLineCharacter (l : LineNo) (b : Byte) (s : State) : Host.Outcome State Fault Refusal :=
  whileRunning s fun s => s.lineCharacter l b

/-- FETCH (R120, R123, R124): the characters of the frame, or those still to come of one that has begun, arrive. -/
def execFetch (c : Chan) (ready fault limit : Bool) (measured : BitVec 12) (s : State) : Host.Outcome State Fault Refusal :=
  whileRunning s fun s =>
    s.lineCharacters (lineOf c)
      (stillToCome (s.line (lineOf c)).receiver.taken (fetchBytes c ready fault limit measured))

/-- FETCH_DISCARD (R123): a receiver that is SENDING completes no frame, nor does one on whose line a character goes on that is not
received (log entry 4). -/
def execFetchDiscard (l : LineNo) (s : State) : Host.Outcome State Fault Refusal :=
  whileRunning s fun s =>
    match (s.line l).receiver with
    | .sending _ _ => s
    | _ => if s.underway.lines.get l then s else s.giveUp l flagCheck

/-- FETCH_TIME_LIMIT (R122): the limit runs only while a frame is open. -/
def execFetchTimeLimit (l : LineNo) (s : State) : Host.Outcome State Fault Refusal :=
  whileRunning s fun s =>
    match (s.line l).receiver with
    | .receiving _ => s.giveUp l flagFraming
    | _ => s

/-- RECTIFIER_CHARACTER_ERROR (R121): in SENDING it is a collision and sets neither flag. -/
def execRectifierCharacterError (l : LineNo) (d : CharFault) (s : State) : Host.Outcome State Fault Refusal :=
  whileRunning s fun s => s.hearLine l fun t =>
    match (t.line l).receiver with
    | .sending _ _ => t.giveUp l flagCollision
    | _ => t.giveUp l (damageFlags d)

/-- REPLY_BEGIN (R125, R127): a reply begins on a line with one pending and no frame open. -/
def execReplyBegin (l : LineNo) (s : State) : Host.Outcome State Fault Refusal :=
  whileRunning s fun s =>
    match (s.line l).receiver, (s.line l).reply with
    | .hunting, some c => s.beginReply l c
    | _, _ => s

/-- GRANT_COMPLETE (R127): the rest of the reply has been sent and read back right. -/
def execGrantComplete (l : LineNo) (s : State) : Host.Outcome State Fault Refusal :=
  whileRunning s fun s =>
    match (s.line l).receiver with
    | .sending _ _ => s.setLine l { s.line l with receiver := .hunting }
    | _ => s

/-- COLLISION (R129). -/
def execCollision (l : LineNo) (s : State) : Host.Outcome State Fault Refusal :=
  whileRunning s fun s =>
    match (s.line l).receiver with
    | .sending _ _ => s.giveUp l flagCollision
    | _ => s

/-! ## The stale and lost timers (R134, R135) -/

/-- R134: an ONLINE channel enters STALE with its share frozen. -/
def Channel.freeze (x : Channel) (t : Timing) : Channel :=
  { x with condition := .stale, frozen := x.share, staleTimer := none, lostTimer := some t.lostTime }

/-- R134, R135: a silent channel enters LOST. -/
def Channel.lose (x : Channel) : Channel :=
  { x.cleared with condition := .lost, share := 0, frozen := 0, staleTimer := none, lostTimer := none }

/-- A change of one channel's record by its own timer, with the attention, the captures and, where it is one, the capacity
event (R131, R137). -/
def State.changeChannel (s : State) (c : Chan) (new : Channel) (event : Bool) : State :=
  let t := s.setChannel c new
  (if event then t.capacityEvent c else t).noteChannel c (s.channel c) new

/-- STALE_TIMER_EXPIRY (R134). -/
def execStaleTimerExpiry (c : Chan) (s : State) : Host.Outcome State Fault Refusal :=
  whileRunning s fun s =>
    let x := s.channel c
    if x.condition = .online ∧ x.staleTimer.isSome then s.changeChannel c (x.freeze s.timing) true else s

/-- R131, R134, R135: whether the loss of a channel is a capacity event: from STALE, where its usable capacity, the frozen share, was
above 0, or where it takes a clamp away; from NOT_READY never (log entry 11). -/
def Channel.lossIsEvent (x : Channel) : Bool := decide (x.condition = .stale ∧ (0 < x.frozen ∨ x.clamp ≠ none))

/-- LOST_TIMER_EXPIRY (R134, R135). -/
def execLostTimerExpiry (c : Chan) (s : State) : Host.Outcome State Fault Refusal :=
  whileRunning s fun s =>
    let x := s.channel c
    if (x.condition = .stale ∨ x.condition = .notReady) ∧ x.lostTimer.isSome then
      s.changeChannel c x.lose x.lossIsEvent
    else s

end Sys2Proof.Machine
end

