-- ==== Sys2Proof/Machine/Attention.lean ====
section
/-! DEFINITION. The attention and fault bank commands as they are taken (R184, R185, R189 to R191, R200). -/

namespace Sys2Proof.Machine

/-- Whether a source has a member set (section 9.1): RIDE, LATCH and CLEAR have none. -/
def hasMembers (n : SourceNo) : Bool :=
  match n with
  | 0 => false
  | 1 => true
  | 2 => true
  | 3 => false
  | 4 => true
  | 5 => false
  | 6 => true
  | 7 => true

/-- R189: the source left by its being sensed: in service, with its lowest member removed. -/
def AttentionSource.sensed (x : AttentionSource) (members : Bool) : AttentionSource :=
  if members then { x with ius := true, ip := !x.members.tail.isEmpty, members := x.members.tail }
  else { x with ius := true, ip := false }

/-- R184, R189: the member reported of a source sensed. -/
def AttentionSource.reported (x : AttentionSource) (members : Bool) : Byte :=
  if members then optByte x.members.head? else 0xFF

/-- SENSE ATTENTION taken (R189). -/
def performSense (s : State) : State × List Byte :=
  match s.qualifying with
  | none => (s, doneBytes false [0xFF, 0xFF])
  | some n =>
    let x := s.source n
    (s.setSource n (x.sensed (hasMembers n)), doneBytes false [byteOf n.val, x.reported (hasMembers n)])

/-- END SERVICE taken (R190). -/
def performEndService (n : SourceNo) (s : State) : State × List Byte :=
  (s.setSource n { s.source n with ius := false }, doneBytes false [])

/-- R191: the IE of each source is its bit of the mask. -/
def State.setMask (s : State) (mask : Byte) : State :=
  sourcesDown.foldl (fun t n => t.setSource n { t.source n with ie := bitOf mask n.val }) s

/-- SET ATTENTION MASK taken (R191). -/
def performSetMask (mask : Byte) (s : State) : State × List Byte := (s.setMask mask, doneBytes false [])

/-- R185: the six data bytes of READ FAULT BANK. -/
def FaultBank.bytes (b : FaultBank) : List Byte :=
  [flagByte b.valid, flagByte b.overflow, byteOf b.severity.code, byteOf b.code, byteOf b.index, byteOf b.seqState.code]

/-- READ FAULT BANK taken (R200). -/
def performReadBank (b : BankNo) (s : State) : State × List Byte := (s, doneBytes false (s.bank b).bytes)

/-- CLEAR FAULT BANK taken (R200). -/
def performClearBank (b : BankNo) (s : State) : State × List Byte := (s.setBank b FaultBank.empty, doneBytes false [])

end Sys2Proof.Machine
end

