-- ==== Sys2Proof/Machine/DrawTable.lean ====
section
/-! DEFINITION. The draw record commands as they are taken (R164 to R171): state checks, effect and result bytes. Each answers
the state after it, before the port holds the result, with the bytes of the result. -/

namespace Sys2Proof.Machine

/-! ## OPEN DRAW (R11, R13, R17, R164) -/

/-- R164: the TAG check: the tag is carried by a live record. -/
def State.tagTaken (s : State) (tag : Nat) : Bool :=
  slots.any fun i => (s.record i).live && decide ((s.record i).tag = tag)

/-- R11, R164: the CHAN check: a channel not enabled, a channel bound, or configured capacities below the floor. -/
def State.feedersUnfit (s : State) (fs : List Feeder) (floor : Nat) : Bool :=
  fs.any (fun f => !(s.channel f.channel).enabled || (s.channel f.channel).owner.isSome)
    || decide (s.feederSum fs (·.capacity) < floor)

/-- R164: the reason bits of the state checks of OPEN DRAW, every check made. -/
def State.openReasons (s : State) (p : OpenParams) : Nat :=
  failsWith (s.record p.slot).live reasonSlot + failsWith (s.tagTaken p.tag) reasonTag
    + failsWith (s.feedersUnfit p.feeders p.floor) reasonChan + failsWith (decide (p.target < p.floor)) reasonBand

/-- R13, R17: the PENDING record an OPEN DRAW makes; the target is clamped to the ceiling, and the held value is the floor
during a ride-through. -/
def openedRecord (p : OpenParams) (st : SeqState) : DrawRecord where
  state := .pending
  tag := p.tag
  cls := p.cls
  rank := p.rank
  lock := p.lock
  exempt := p.exempt
  floor := p.floor
  ceiling := p.ceiling
  target := min p.target p.ceiling
  aim := min p.target p.ceiling
  upRate := p.upRate
  downRate := p.downRate
  feeders := p.feeders
  held := if st.erInEffect then some p.floor else none
  grant := 0
  present := 0
  engageTimer := none
  releaseTimer := none

/-- OPEN DRAW taken (R17, R164). -/
def performOpen (p : OpenParams) (s : State) : State × List Byte :=
  let reasons := s.openReasons p
  if reasons = 0 then
    let t := (s.setRecord p.slot (openedRecord p s.seq.state)).updateFeeders p.feeders (Channel.bound p.slot)
    (t.requestPass, doneBytes (decide (p.ceiling < p.target)) [byteOf p.slot.val, byteOf RecordState.pending.code])
  else (s, failedBytes reasons)

/-! ## SET TARGET (R4, R7, R8, R73, R165) -/

/-- R165: the record states in which SET TARGET fails with SLOT. -/
def RecordState.noTarget : RecordState → Bool
  | .free => true
  | .releasing => true
  | .faulted => true
  | .pending => false
  | .engaging => false
  | .active => false
  | .shed => false

/-- R165: the reason bits of the state checks of SET TARGET. -/
def DrawRecord.targetReasons (r : DrawRecord) (target : Nat) : Nat :=
  failsWith r.state.noTarget reasonSlot + failsWith r.lock reasonLock + failsWith (decide (target < r.floor)) reasonBand

/-- R8: the aim after a SET TARGET that stores `t`: equal to it in PENDING and SHED, raised to it at once otherwise. -/
def DrawRecord.aimFor (r : DrawRecord) (t : Nat) : Nat :=
  match r.state with
  | .pending => t
  | .shed => t
  | _ => max r.aim t

/-- SET TARGET taken (R7, R8, R165). -/
def performSetTarget (i : Slot) (target : Nat) (s : State) : State × List Byte :=
  let r := s.record i
  let reasons := r.targetReasons target
  if reasons = 0 then
    let stored := min target r.ceiling
    let t := s.setRecord i { r with target := stored, aim := r.aimFor stored }
    let u := if r.state = .active ∧ stored = r.present ∧ r.target ≠ r.present then t.occurMember srcArrival i.val else t
    (u.requestPass, doneBytes (decide (r.ceiling < target)) (bytes2 stored))
  else (s, failedBytes reasons)

/-! ## AMEND DRAW (R3, R4, R5, R9, R166) -/

/-- R166: the record states in which AMEND DRAW fails with SLOT. -/
def RecordState.noAmend : RecordState → Bool
  | .free => true
  | .releasing => true
  | .pending => false
  | .engaging => false
  | .active => false
  | .shed => false
  | .faulted => false

/-- AMEND DRAW taken (R166). -/
def performAmend (i : Slot) (cls : DrawClass) (rank : Fin 8) (lock exempt : Bool) (up down : Nat) (s : State) :
    State × List Byte :=
  let r := s.record i
  if r.state.noAmend then (s, failedBytes reasonSlot)
  else
    let t := s.setRecord i { r with cls := cls, rank := rank, lock := lock, exempt := exempt, upRate := up, downRate := down }
    (t.requestPass, doneBytes false [])

/-! ## RETIRE DRAW (R21, R167) -/

/-- RETIRE DRAW taken (R21). -/
def performRetire (i : Slot) (s : State) : State × List Byte :=
  let r := s.record i
  let leave := { r with state := .releasing, target := r.floor, aim := r.floor }
  let done := fun (st : RecordState) => doneBytes false [byteOf st.code]
  match r.state with
  | .free => (s, failedBytes reasonSlot)
  | .releasing => (s, failedBytes reasonState)
  | .pending => ((s.enterFree i).requestPass, done .free)
  | .shed => ((s.enterFree i).requestPass, done .free)
  | .faulted => ((s.enterFree i).requestPass, done .free)
  | .active => ((s.setRecord i leave).requestPass, done .releasing)
  | .engaging =>
    ((s.setRecord i { leave with engageTimer := none, releaseTimer := some s.timing.releaseTime }).requestPass,
      done .releasing)

/-! ## READ DRAW (R168, R169) -/

/-- R169: the five bytes of one feeder block. -/
def State.feederBlock (s : State) (f : Feeder) : List Byte :=
  let x := s.channel f.channel
  [byteOf f.channel.val, byteOf f.weight, byteOf x.condition.code] ++ bytes2 x.share

/-- R168: the data bytes of READ DRAW. -/
def State.drawBytes (s : State) (i : Slot) : List Byte :=
  let r := s.record i
  [byteOf i.val, byteOf r.state.code, byteOf r.tag, attrByte r] ++ bytes2 r.floor ++ bytes2 r.ceiling ++ bytes2 r.target
    ++ bytes2 r.aim ++ [byteOf r.upRate, byteOf r.downRate] ++ optBytes2 r.held ++ bytes2 r.grant ++ bytes2 r.present
    ++ bytes2 (s.ceff i) ++ bytes2 (s.floorEff i) ++ [byteOf r.feeders.length] ++ r.feeders.flatMap s.feederBlock

/-- READ DRAW taken (R168). -/
def performReadDraw (i : Slot) (s : State) : State × List Byte := (s, doneBytes false (s.drawBytes i))

/-! ## SCAN DRAWS (R170, R171) -/

/-- R171: whether a slot is found by a scan condition. -/
def State.scanFinds (s : State) (condition : Fin 7) (value : Nat) (i : Slot) : Bool :=
  let r := s.record i
  match condition with
  | 0 => decide (r.state.code = value)
  | 1 => decide (r.state = .active) && decide (r.present < r.target)
  | 2 => decide (value ≤ r.present)
  | 3 => decide (r.state = .active) && decide (r.present + value ≤ s.ceff i)
  | 4 => r.live && decide (r.rank.val ≤ value)
  | 5 => r.live && decide (r.cls.code = value)
  | 6 => r.live && r.feeders.any fun f => decide ((s.channel f.channel).condition ≠ .online)

/-- The slots a scan finds, ascending (R170). -/
def State.scan (s : State) (condition : Fin 7) (value : Nat) : List Slot := slots.filter (s.scanFinds condition value)

/-- SCAN DRAWS taken (R170). -/
def performScan (condition : Fin 7) (value : Nat) (s : State) : State × List Byte :=
  let found := s.scan condition value
  (s, doneBytes false (byteOf found.length :: found.map fun i => byteOf i.val))

end Sys2Proof.Machine
end

