-- ==== Sys2Proof/Machine/Plant.lean ====
section
/-! DEFINITION. The plant, channel and line commands as they are taken (R172 to R177). -/

namespace Sys2Proof.Machine

/-! ## SET CAP and READ PLANT (R24, R172, R173) -/

/-- SET CAP taken (R24). -/
def performSetCap (e0 : Nat) (s : State) : State × List Byte :=
  ((s.setEngine { s.engine with e0 := e0 }).requestPass, doneBytes false [])

/-- R173: the 27 data bytes of READ PLANT. -/
def State.plantBytes (s : State) : List Byte :=
  bytes2 s.engine.e0 ++ bytes2 s.grid.f ++ bytes2 s.e1 ++ bytes2 s.seq.er ++ [flagByte s.seq.state.erInEffect]
    ++ bytes2 s.engine.publishedCap ++ bytes3 s.totalPresent ++ bytes3 s.totalGrant
    ++ [flagByte s.engine.breach, byteOf s.engine.pubNumber] ++ s.timing.bytes

/-- READ PLANT taken (R173). -/
def performReadPlant (s : State) : State × List Byte := (s, doneBytes false s.plantBytes)

/-! ## SET CHANNEL, REARM CHANNEL and READ CHANNEL (R130, R136, R174 to R176) -/

/-- R125, R130: a reply pending for a channel is dropped without being sent. -/
def State.dropReply (s : State) (c : Chan) : State :=
  let x := s.line (lineOf c)
  if x.reply = some c then s.setLine (lineOf c) { x with reply := none } else s

/-- SET CHANNEL taken (R130, R174). -/
def performSetChannel (c : Chan) (enabled : Bool) (capacity : Nat) (s : State) : State × List Byte :=
  let x := s.channel c
  if x.owner.isSome then (s, failedBytes reasonChan)
  else
    let t := s.setChannel c { x with enabled := enabled, capacity := capacity }
    let u := if enabled then t else t.dropReply c
    (u.requestPass, doneBytes false [])

/-- REARM CHANNEL taken (R136, R175). -/
def performRearm (c : Chan) (s : State) : State × List Byte :=
  let x := s.channel c
  if x.condition = .tripped then ((s.setChannel c { x with condition := .waiting }).requestPass, doneBytes false [])
  else (s, failedBytes reasonState)

/-- R176: which timer of a channel runs: 0 none, 1 stale, 2 lost. -/
def Channel.runningTimer (x : Channel) : Nat :=
  if x.staleTimer.isSome then 1 else if x.lostTimer.isSome then 2 else 0

/-- R176: the 20 data bytes of READ CHANNEL. -/
def State.channelBytes (s : State) (c : Chan) : List Byte :=
  let x := s.channel c
  [byteOf c.val, flagByte x.enabled] ++ bytes2 x.capacity ++ [byteOf x.condition.code, optByte (x.owner.map (·.val))]
    ++ bytes2 x.share ++ bytes2 x.frozen ++ optBytes2 x.clamp ++ bytes2 x.usable
    ++ [flagByte x.tracking, byteOf x.mismatch] ++ bytes2 x.lastMeasured ++ [x.lastStatus, byteOf x.runningTimer]

/-- READ CHANNEL taken (R176). -/
def performReadChannel (c : Chan) (s : State) : State × List Byte := (s, doneBytes false (s.channelBytes c))

/-! ## READ LINE (R141, R80, R177) -/

/-- READ LINE taken: the flags as they stood, all cleared in the same event; line 8 is the grid line. -/
def performReadLine (n : Fin 9) (s : State) : State × List Byte :=
  if h : n.val < 8 then
    let l : LineNo := ⟨n.val, h⟩
    (s.setLine l { s.line l with flags := 0 }, doneBytes false [(s.line l).flags])
  else (s.setGrid { s.grid with flags := 0 }, doneBytes false [s.grid.flags])

end Sys2Proof.Machine
end

