-- ==== Sys2Proof/Machine/Port.lean ====
section
/-! DEFINITION. The Supervisor Port (chapter 7): its transactions, the phases a command passes through, and the taking of a
command. The 23 supervisor commands of the table are each the command's code and parameter bytes sent in PUT transactions, with
no other event between them (log entry 2). -/

namespace Sys2Proof.Machine

/-! ## Taking a command (R151, R154, R159) -/

/-- The effect of a command that has passed its range checks, with the bytes of its result. -/
def perform (c : Cmd) (s : State) : State × List Byte :=
  match c with
  | .openDraw p => performOpen p s
  | .setTarget i target => performSetTarget i target s
  | .amendDraw i cls rank lock exempt up down => performAmend i cls rank lock exempt up down s
  | .retireDraw i => performRetire i s
  | .readDraw i => performReadDraw i s
  | .scanDraws condition value => performScan condition value s
  | .setCap e0 => performSetCap e0 s
  | .readPlant => performReadPlant s
  | .setChannel ch enabled capacity => performSetChannel ch enabled capacity s
  | .rearmChannel ch => performRearm ch s
  | .readChannel ch => performReadChannel ch s
  | .readLine n => performReadLine n s
  | .loadProfile index p => performLoadProfile index p s
  | .readProfile index => performReadProfile index s
  | .configureGrid g => performConfigureGrid g s
  | .configureTiming x => performConfigureTiming x s
  | .readGrid view => performReadGrid view s
  | .resume => performResume s
  | .senseAttention => performSense s
  | .endService n => performEndService n s
  | .setAttentionMask mask => performSetMask mask s
  | .readFaultBank b => performReadBank b s
  | .clearFaultBank b => performClearBank b s

/-- R154: the port enters RESULT with a result to be read from its first byte. -/
def State.complete (s : State) (bytes : List Byte) : State :=
  s.setPort { s.port with phase := .result, waiting := none, result := bytes, readPos := 0 }

/-- R151, R159: a command is taken: its state checks and effect, and the port enters RESULT in the same event. -/
def State.takeCmd (s : State) (c : Cmd) : State := (perform c s).1.complete (perform c s).2

/-- R152: whether the pass in flight is just starting: its snapshot is the one a start would take now, and nothing has set its rerun
flag. DESIGN CHOICE (safe; log entry 26): any pass of which this holds may be the one that a request is starting. -/
def State.passStarting (s : State) : Bool :=
  match s.engine.pass with
  | .running n => decide (n = s.snapshot) && !s.engine.rerun
  | .idle => false
  | .window _ => false

/-- R152, R44: a command taken before the start of the pass that another event's request is starting finds the Engine idle. Of its own
request and the other, whichever comes first starts the pass, with both effects in its snapshot, and the other sets the rerun flag; a
command that raises no request leaves the pass to the other. -/
def State.takeBeforeStart (s : State) (c : Cmd) : State :=
  ((s.setEngine { s.engine with pass := .idle }).takeCmd c).requestPass

/-- R151, R152: a command that passed its range checks and finds the Engine as it stands is taken at once, or waits while a pass is in
flight. One that begins to wait in an open publication window is not one that window takes (R47; log entry 25). -/
def State.takeOrWait (s : State) (c : Cmd) : State :=
  if c.waits && s.engine.pass.inFlight then
    let t := s.setPort { s.port with phase := .execution, waiting := some c }
    match s.engine.pass with
    | .window _ => t.setEngine { t.engine with pass := .window false }
    | _ => t
  else s.takeCmd c

/-- R152: a command that passed its range checks, taken before or after the start of a pass that is just starting. -/
def State.startCmd (s : State) (c : Cmd) (first : Bool) : State :=
  if first && c.waits && s.passStarting then s.takeBeforeStart c else s.takeOrWait c

/-- R151: EXECUTION begins with the range checks of the command on its parameter bytes. -/
def State.beginExecution (s : State) (code : CmdCode) (params : List Byte) (first : Bool) : State :=
  match parseCmd code params with
  | none => s.complete invalidBytes
  | some c => s.startCmd c first

/-! ## Transactions (R145 to R150, R154, R156, R157) -/

/-- R157: a transaction out of turn, unknown or cut short is recorded. -/
def State.slipped (s : State) : State := s.setPort { s.port with slip := true }

/-- R149: a PUT in turn that finds no code is the command code, and clears SLIP. DESIGN CHOICE (unsafe; log entry 8): a byte that is
no known code leaves the command code item absent while its INVALID result is offered. No command without parameters is one that
waits (R152), so the start of a pass does not bear on it. -/
def State.putCode (s : State) (data : Byte) : State :=
  let t := s.setPort { s.port with slip := false }
  match codeOf data with
  | none => t.complete invalidBytes
  | some c =>
    let u := t.setPort { t.port with code := some c, params := [], expected := c.paramCount }
    if c.paramCount = 0 then u.beginExecution c [] false else u

/-- R149, R150: a PUT in turn that finds a code stored is the next parameter byte; the twelfth of OPEN DRAW is its feeder
count, which sets the expected count or ends the command at once. -/
def State.putParam (s : State) (c : CmdCode) (data : Byte) (first : Bool) : State :=
  let ps := s.port.params ++ [data]
  let t := s.setPort { s.port with params := ps }
  if c = .openDraw ∧ ps.length = 12 then
    if 1 ≤ data.toNat ∧ data.toNat ≤ 4 then t.setPort { t.port with expected := 12 + 2 * data.toNat }
    else (t.setPort { t.port with code := none, params := [], expected := 0 }).complete invalidBytes
  else if ps.length = s.port.expected then t.beginExecution c ps first
  else t

/-- R148, R149: a PUT transaction. `first` is the order of the EXECUTION it may begin and the start of a pass (R152). -/
def State.putByte (s : State) (data : Byte) (first : Bool) : State :=
  match s.port.phase with
  | .command =>
    match s.port.code with
    | none => s.putCode data
    | some c => s.putParam c data first
  | _ => s.slipped

/-- R205: a transaction while a reset lasts is ignored, and so is one that began before the end of the reset; otherwise it acts, the
byte shifted out being recorded. -/
def State.transact (s : State) (out : Byte) (f : State → State) : State :=
  if s.resetState = .running then
    if s.underway.port then s.setUnderway { s.underway with port := false } else (f s).setSdo out
  else s

/-- A run of PUT transactions, none of them while a pass is starting. -/
def State.putAll (s : State) (bs : List Byte) : State := bs.foldl (fun t b => t.transact 0x00 fun u => u.putByte b false) s

/-- A command sent whole: its code and its parameter bytes, one PUT each. -/
def State.send (s : State) (c : CmdCode) (params : List Byte) : State := s.putAll (c.byte :: params)

/-- R154: whether a TAKE finds a result byte to take. -/
def State.takeInTurn (s : State) (early : Bool) : Bool := !early && decide (s.port.phase = .result)

/-- R145, R148, R154: the byte a TAKE shifts out: the next result byte, or 0x00 out of turn. -/
def State.takeOut (s : State) (early : Bool) : Byte :=
  if s.takeInTurn early then s.port.result.getD s.port.readPos 0x00 else 0x00

/-- R154: a TAKE transaction; the last result byte taken returns the port to COMMAND with the code absent and both buffers
empty. -/
def State.takeByte (s : State) (early : Bool) : State :=
  if s.takeInTurn early then
    if s.port.result.length ≤ s.port.readPos + 1 then
      s.setPort { s.port with phase := .command, code := none, params := [], expected := 0, result := [], readPos := 0 }
    else s.setPort { s.port with readPos := s.port.readPos + 1 }
  else s.slipped

/-- R156: ABORT returns the port to COMMAND from wherever it stands. -/
def State.abortPort (s : State) : State := s.setPort Port.initial

/-- R145: the data byte a transaction shifts out, fixed as its selector byte is complete: the main status byte for STATUS, the result
byte or 0x00 for TAKE, and 0x00 otherwise. -/
def State.dataOut (s : State) (kind : Selector) (early : Bool) : Byte :=
  match kind with
  | .status => s.mainStatus
  | .put => 0x00
  | .take => s.takeOut early
  | .abort => 0x00
  | .unknown => 0x00

/-- R145, R146: what a transaction does when chip select is released; a STATUS changes nothing. `early` is what the outside says
of its order against another event: of a TAKE, that its selector came before the end of EXECUTION (R145); of a PUT, that the EXECUTION
it begins came before the start of a pass (R152). -/
def State.actOn (s : State) (kind : Selector) (data : Byte) (early : Bool) : State :=
  match kind with
  | .status => s
  | .put => s.putByte data early
  | .take => s.takeByte early
  | .abort => s.abortPort
  | .unknown => s.slipped

/-- R145, R146: a whole transaction by its two bytes, with the order the outside gives it (`State.actOn`). -/
def State.transaction (s : State) (selector data : Byte) (early : Bool) : State :=
  s.transact (s.dataOut (selectorOf selector) early) fun t => t.actOn (selectorOf selector) data early

/-! ## The SDO output (R145, R204, R205) -/

/-- Where the outside has chip select: high; or low, with the selector byte being clocked, the data byte, whose value out the part
has fixed (`State.dataOut`), or a byte after it. -/
inductive ChipSelect where
  | high
  | selectorByte
  | dataByte (fixed : Byte)
  | beyond
  deriving DecidableEq, Repr

/-- What the SDO output carries. In a transaction that the part ignores it is driven with a byte the manual does not state. -/
inductive SdoOutput where
  | highImpedance
  | byte (value : Byte)
  | unstated
  deriving DecidableEq, Repr

/-- R204, R205: SDO is driven only while SSEL is low, and is high impedance throughout a reset; R145: it carries 0x00 in every byte
but the data byte. DESIGN CHOICE (safe; log entry 28): in a transaction that began before the end of a reset no byte is stated. -/
def State.sdoOutput (s : State) (select : ChipSelect) : SdoOutput :=
  if s.resetState = .running then
    match select with
    | .high => .highImpedance
    | .selectorByte => if s.underway.port then .unstated else .byte 0x00
    | .dataByte fixed => if s.underway.port then .unstated else .byte fixed
    | .beyond => if s.underway.port then .unstated else .byte 0x00
  else .highImpedance

/-! ## The rows of the port -/

/-- PUT (R148, R149, R152). -/
def execPut (data : Byte) (s : State) (executionFirst : Bool := false) : Host.Outcome State Fault Refusal :=
  .next (s.transaction Config.putSelector data executionFirst)

/-- TAKE (R148, R154); its data byte is not read. -/
def execTake (early : Bool) (s : State) : Host.Outcome State Fault Refusal :=
  .next (s.transaction Config.takeSelector 0x00 early)

/-- ABORT (R156); its data byte is ignored. -/
def execAbort (s : State) : Host.Outcome State Fault Refusal := .next (s.transaction Config.abortSelector 0x00 false)

/-- UNKNOWN_SELECTOR (R146), and STATUS, which has no row of its own (R145 to R147; log entry 7). -/
def execUnknownSelector (s : State) (selector data : Byte := 0x00) : Host.Outcome State Fault Refusal :=
  .next (s.transaction selector data false)

/-- TRANSACTION_CUT_SHORT (R145): no data byte was shifted out whole. -/
def execTransactionCutShort (s : State) : Host.Outcome State Fault Refusal :=
  .next (s.transact s.sdo State.slipped)

/-! ## The supervisor commands, sent whole -/

/-- OPEN DRAW (R163). -/
def execOpenDraw (slot tag attrs : Byte) (floor ceiling target : Word) (up down : Byte) (fs : List (Byte × Byte))
    (s : State) : Host.Outcome State Fault Refusal :=
  .next (s.send .openDraw ([slot, tag, attrs] ++ wordBytes floor ++ wordBytes ceiling ++ wordBytes target
    ++ [up, down, byteOf fs.length] ++ fs.flatMap fun f => [f.1, f.2]))

/-- SET TARGET (R165). -/
def execSetTarget (slot : Byte) (target : Word) (s : State) : Host.Outcome State Fault Refusal :=
  .next (s.send .setTarget (slot :: wordBytes target))

/-- AMEND DRAW (R166). -/
def execAmendDraw (slot attrs up down : Byte) (s : State) : Host.Outcome State Fault Refusal :=
  .next (s.send .amendDraw [slot, attrs, up, down])

/-- RETIRE DRAW (R167). -/
def execRetireDraw (slot : Byte) (s : State) : Host.Outcome State Fault Refusal := .next (s.send .retireDraw [slot])

/-- READ DRAW (R168). -/
def execReadDraw (slot : Byte) (s : State) : Host.Outcome State Fault Refusal := .next (s.send .readDraw [slot])

/-- SCAN DRAWS (R170). -/
def execScanDraws (condition : Byte) (value : Word) (s : State) : Host.Outcome State Fault Refusal :=
  .next (s.send .scanDraws (condition :: wordBytes value))

/-- SET CAP (R172). -/
def execSetCap (e0 : Word) (s : State) : Host.Outcome State Fault Refusal := .next (s.send .setCap (wordBytes e0))

/-- READ PLANT (R173). -/
def execReadPlant (s : State) : Host.Outcome State Fault Refusal := .next (s.send .readPlant [])

/-- SET CHANNEL (R174). -/
def execSetChannel (channel enabled : Byte) (capacity : Word) (s : State) : Host.Outcome State Fault Refusal :=
  .next (s.send .setChannel (channel :: enabled :: wordBytes capacity))

/-- REARM CHANNEL (R175). -/
def execRearmChannel (channel : Byte) (s : State) : Host.Outcome State Fault Refusal :=
  .next (s.send .rearmChannel [channel])

/-- READ CHANNEL (R176). -/
def execReadChannel (channel : Byte) (s : State) : Host.Outcome State Fault Refusal :=
  .next (s.send .readChannel [channel])

/-- READ LINE (R177). -/
def execReadLine (line : Byte) (s : State) : Host.Outcome State Fault Refusal := .next (s.send .readLine [line])

/-- LOAD PROFILE (R178). -/
def execLoadProfile (index enabled mask polarity mode confirm : Byte) (retain : Word) (tracking hold period : Byte)
    (step : Word) (s : State) : Host.Outcome State Fault Refusal :=
  .next (s.send .loadProfile ([index, enabled, mask, polarity, mode, confirm] ++ wordBytes retain
    ++ [tracking, hold, period] ++ wordBytes step))

/-- READ PROFILE (R179). -/
def execReadProfile (index : Byte) (s : State) : Host.Outcome State Fault Refusal := .next (s.send .readProfile [index])

/-- CONFIGURE GRID (R180). -/
def execConfigureGrid (l1 l2 l3 high uf overFreq ub : Word) (db k : Byte) (fmin : Word) (silence : Byte) (s : State) :
    Host.Outcome State Fault Refusal :=
  .next (s.send .configureGrid (wordBytes l1 ++ wordBytes l2 ++ wordBytes l3 ++ wordBytes high ++ wordBytes uf
    ++ wordBytes overFreq ++ wordBytes ub ++ [db, k] ++ wordBytes fmin ++ [silence]))

/-- CONFIGURE TIMING (R181). -/
def execConfigureTiming (step stale lost engage release tolerance trackCount limit : Byte) (s : State) :
    Host.Outcome State Fault Refusal :=
  .next (s.send .configureTiming [step, stale, lost, engage, release, tolerance, trackCount, limit])

/-- READ GRID (R182). -/
def execReadGrid (view : Byte) (s : State) : Host.Outcome State Fault Refusal := .next (s.send .readGrid [view])

/-- RESUME (R183). -/
def execResume (s : State) : Host.Outcome State Fault Refusal := .next (s.send .resume [])

/-- SENSE ATTENTION (R184). -/
def execSenseAttention (s : State) : Host.Outcome State Fault Refusal := .next (s.send .senseAttention [])

/-- END SERVICE (R184). -/
def execEndService (source : Byte) (s : State) : Host.Outcome State Fault Refusal := .next (s.send .endService [source])

/-- SET ATTENTION MASK (R184). -/
def execSetAttentionMask (mask : Byte) (s : State) : Host.Outcome State Fault Refusal :=
  .next (s.send .setAttentionMask [mask])

/-- READ FAULT BANK (R185). -/
def execReadFaultBank (bank : Byte) (s : State) : Host.Outcome State Fault Refusal := .next (s.send .readFaultBank [bank])

/-- CLEAR FAULT BANK (R185). -/
def execClearFaultBank (bank : Byte) (s : State) : Host.Outcome State Fault Refusal :=
  .next (s.send .clearFaultBank [bank])

end Sys2Proof.Machine
end

