-- ==== Sys2Proof/Machine/Allocation.lean ====
section
/-! DEFINITION. One allocation pass, computed from its snapshot alone (R45): the effective cap (R25, R26), demands (R27, R28),
admission and drop-out (R29 to R32), class reduction (R33 to R35) and re-admission (R36, R37). -/

namespace Sys2Proof.Machine

/-- The snapshot's values of the record at a slot. -/
def Snapshot.record (n : Snapshot) (i : Slot) : SnapRecord := n.records.get i

/-- R25, R26: the effective cap E of a pass. -/
def Snapshot.cap (n : Snapshot) : Nat :=
  if n.erInEffect then min (droopedCap n.e0 n.f) n.er else droopedCap n.e0 n.f

/-- R27: the demand of a record. -/
def SnapRecord.demand (r : SnapRecord) : Nat :=
  match r.state with
  | .active => max r.floorEff (min (min r.aim r.ceff) (r.held.getD (min r.aim r.ceff)))
  | .engaging => r.floor
  | .releasing => r.present
  | _ => 0

/-- R29: what a record puts into the floor sum. -/
def SnapRecord.floorValue (r : SnapRecord) : Nat :=
  match r.state with
  | .active => r.floorEff
  | .engaging => r.floor
  | .releasing => r.present
  | _ => 0

/-- R28: the room of a record, which class reduction may take; only ACTIVE records have any. -/
def SnapRecord.room (r : SnapRecord) : Nat := if r.state = .active then r.demand - r.floorEff else 0

/-! ## Admission and drop-out (R29 to R32) -/

/-- The ranks from the first dropped to the last (R3, R29). -/
def ranksDown : List (Fin 8) := [7, 6, 5, 4, 3, 2, 1, 0]
/-- The ranks from the first admitted to the last (R3, R36). -/
def ranksUp : List (Fin 8) := [0, 1, 2, 3, 4, 5, 6, 7]

/-- Whether a record may be dropped, and stands at one rank and state of the drop order (R29, R5). -/
def SnapRecord.droppableAt (r : SnapRecord) (k : Fin 8) (st : RecordState) : Bool :=
  decide (r.state = st) && decide (r.rank = k) && !r.exempt

/-- R29: the drop order: rank from 7 down, ENGAGING before ACTIVE within a rank, higher slot first within both. -/
def Snapshot.dropOrder (n : Snapshot) : List Slot :=
  ranksDown.flatMap fun k =>
    [RecordState.engaging, RecordState.active].flatMap fun st =>
      slots.reverse.filter fun i => (n.record i).droppableAt k st

/-- R29: the floor sum F over all records of the snapshot. -/
def Snapshot.floorSum (n : Snapshot) : Nat := sumOver slots fun i => (n.record i).floorValue

/-- R30: the records dropped while the floor sum exceeds the cap, with the floor sum that is left. -/
def dropWhileOver (n : Snapshot) (cap : Nat) : List Slot → Nat → List Slot × Nat
  | [], f => ([], f)
  | i :: is, f =>
    if f ≤ cap then ([], f)
    else
      let rest := dropWhileOver n cap is (f - (n.record i).floorValue)
      (i :: rest.1, rest.2)

/-- The outcome of admission: the records dropped, in drop order, and the floor sum left. -/
def Snapshot.admission (n : Snapshot) : List Slot × Nat := dropWhileOver n n.cap n.dropOrder n.floorSum

/-- R30: the records a pass drops, a first part of the drop order. -/
def Snapshot.dropped (n : Snapshot) : List Slot := n.admission.1

/-- R31: whether the pass ends in a cap breach. -/
def Snapshot.breach (n : Snapshot) : Bool := decide (n.cap < n.admission.2)

/-- Whether a record is in the pass: ACTIVE, ENGAGING or RELEASING (R27). -/
def SnapRecord.inPass (r : SnapRecord) : Bool :=
  decide (r.state = .active) || decide (r.state = .engaging) || decide (r.state = .releasing)

/-- Whether a record survives admission, given the records dropped. -/
def Snapshot.survives (n : Snapshot) (gone : List Slot) (i : Slot) : Bool := (n.record i).inPass && !decide (i ∈ gone)

/-- The slots that survive admission, ascending. -/
def Snapshot.survivors (n : Snapshot) : List Slot :=
  let gone := n.dropped
  slots.filter fun i => n.survives gone i

/-- R31: the slot a CAP_BREACH capture names: the lowest EXEMPT survivor, or the lowest RELEASING slot with present above 0. -/
def Snapshot.breachIndex (n : Snapshot) : Nat :=
  let exempt := n.survivors.filter fun i => decide ((n.record i).state ≠ .releasing) && (n.record i).exempt
  let leaving := n.survivors.filter fun i => decide ((n.record i).state = .releasing) && decide (0 < (n.record i).present)
  match exempt ++ leaving with
  | i :: _ => i.val
  | [] => 0

/-! ## Class reduction (R33 to R35) -/

/-- R28, R33: the sum D of the demands of given records. -/
def Snapshot.demandSum (n : Snapshot) (is : List Slot) : Nat := sumOver is fun i => (n.record i).demand

/-- The members of a class among given records. -/
def Snapshot.ofClass (n : Snapshot) (is : List Slot) (k : DrawClass) : List Slot :=
  is.filter fun i => decide ((n.record i).cls = k)

/-- R34: the sum S of room over the members of a class. -/
def Snapshot.roomSum (n : Snapshot) (is : List Slot) (k : DrawClass) : Nat :=
  sumOver (n.ofClass is k) fun i => (n.record i).room

/-- R33, R34: the part of an excess that reaches a class, taken in the order C, B, A. -/
def Snapshot.excessAt (n : Snapshot) (is : List Slot) (excess : Nat) : DrawClass → Nat
  | .c => excess
  | .b => excess - n.roomSum is .c
  | .a => excess - n.roomSum is .c - n.roomSum is .b

/-- R35: the proportional part of an excess, rounded toward zero. -/
def proportion (excess room total : Nat) : Nat := excess * room / total

/-- R34, R35: what one record of a class gives. `members` are the class's records and `excess` what reaches the class. -/
def Snapshot.classTake (n : Snapshot) (members : List Slot) (excess : Nat) (i : Slot) : Nat :=
  let room := fun j => (n.record j).room
  let total := sumOver members room
  if total ≤ excess then room i
  else
    let leftover := excess - sumOver members fun j => proportion excess (room j) total
    let ahead := (members.filter fun j => decide (0 < room j) && decide (j < i)).length
    proportion excess (room i) total + if 0 < room i ∧ ahead < leftover then 1 else 0

/-- R33 to R35: what class reduction takes from one surviving record. -/
def Snapshot.reduction (n : Snapshot) (is : List Slot) (excess : Nat) (i : Slot) : Nat :=
  let k := (n.record i).cls
  n.classTake (n.ofClass is k) (n.excessAt is excess k) i

/-! ## Re-admission (R36, R37) -/

/-- R36: the candidates, in ascending rank and within a rank in ascending slot. -/
def Snapshot.candidates (n : Snapshot) : List Slot :=
  ranksUp.flatMap fun k =>
    slots.filter fun i =>
      (decide ((n.record i).state = .pending) || decide ((n.record i).state = .shed)) && decide ((n.record i).rank = k)

/-- R36: the candidates admitted one at a time, `used` being the sum of grants so far. -/
def admitFrom (n : Snapshot) (cap : Nat) : List Slot → Nat → List Slot
  | [], _ => []
  | i :: is, used =>
    let r := n.record i
    if used + r.floor ≤ cap ∧ r.floor ≤ r.online then i :: admitFrom n cap is (used + r.floor)
    else admitFrom n cap is used

/-- R36: re-admission is performed by passes taken in NORMAL or RESTORING. -/
def SeqState.readmits : SeqState → Bool
  | .normal => true
  | .restoring => true
  | .confirming => false
  | .riding => false
  | .holding => false
  | .latched => false
  | .blind => false

/-- R36: the records a pass admits. -/
def Snapshot.admitted (n : Snapshot) : List Slot :=
  let demands := n.demandSum n.survivors
  if n.seqState.readmits = true ∧ n.breach = false ∧ demands ≤ n.cap then admitFrom n n.cap n.candidates demands else []

/-! ## The grants of a pass -/

/-- The grant a pass computes for the record at a slot (R31, R33 to R37). -/
def Snapshot.grant (n : Snapshot) (i : Slot) : Nat :=
  let is := n.survivors
  let r := n.record i
  if i ∈ is then
    if n.breach then r.floorValue
    else
      let demands := n.demandSum is
      if demands ≤ n.cap then r.demand else r.demand - n.reduction is (demands - n.cap) i
  else if i ∈ n.admitted then r.floor
  else 0

end Sys2Proof.Machine
end

