-- ==== Sys2Proof/Machine/Publication.lean ====
section
/-! DEFINITION. Publication (R38 to R43, R58 to R60) and the publication window (R47). -/

namespace Sys2Proof.Machine

/-! ## What a publication writes -/

/-- R38: the grants of all records; a record that is FREE at publication gets 0. -/
def State.writeGrants (s : State) (grants : List Nat) : State :=
  slots.foldl (fun t i =>
    t.setRecord i { t.record i with grant := if (t.record i).live then grants.getD i.val 0 else 0 }) s

/-- R20: a drop takes effect on a record that is ENGAGING or ACTIVE at publication. -/
def State.dropEffective (s : State) (i : Slot) : Bool :=
  decide ((s.record i).state = .engaging) || decide ((s.record i).state = .active)

/-- R20: a dropped record becomes SHED. -/
def State.shedRecord (s : State) (i : Slot) : State :=
  let t := s.zeroShares i
  let r := t.record i
  (t.setRecord i { r with state := .shed, present := 0, engageTimer := none, aim := r.target }).occurMember srcDrop i.val

/-- R20: the drops of a publication, with one DROPOUT capture where any takes effect. -/
def State.applyDrops (s : State) (dropped : List Slot) : State :=
  let effective := dropped.filter s.dropEffective
  let t := effective.foldl State.shedRecord s
  match effective with
  | i :: _ => t.capture .dropout i.val
  | [] => t

/-- R18: an admitted record becomes ENGAGING and its engage timer starts. -/
def State.engageRecord (s : State) (i : Slot) : State :=
  let r := s.record i
  if r.state = .pending ∨ r.state = .shed then
    s.setRecord i { r with state := .engaging, present := 0, engageTimer := some s.timing.engageTime }
  else s

/-- R60: at a publication taken in RIDING or BLIND a RELEASING present above 0 goes to 0, which raises a pass request. -/
def State.releaseCut (s : State) (i : Slot) : State :=
  let r := s.record i
  if (s.seq.state = .riding ∨ s.seq.state = .blind) ∧ r.state = .releasing ∧ 0 < r.present then
    (s.endDescent i).requestPass
  else s

/-- R58 to R60: the cuts of a publication. -/
def State.applyCuts (s : State) : State := slots.foldl (fun t i => (t.cutToGrant i).releaseCut i) s

/-- R31, R40, R43: the breach indication, with the CAP_BREACH capture where it goes from clear to set. -/
def State.writeBreach (s : State) (n : Snapshot) : State :=
  let t := s.setEngine { s.engine with breach := n.breach }
  if n.breach && !s.engine.breach then t.capture .capBreach n.breachIndex else t

/-- R38, R42: the published cap and the publication number, which goes from 255 to 0. -/
def State.writeNumbers (s : State) (n : Snapshot) : State :=
  s.setEngine { s.engine with publishedCap := n.cap, pubNumber := (s.engine.pubNumber + 1) % 256 }

/-- R38: the pass with the given snapshot publishes, all in one event; the window that follows still has to take the command
waiting now. -/
def State.publish (s : State) (n : Snapshot) : State :=
  let t := (s.writeGrants (slots.map n.grant)).writeNumbers n
  let u := t.setEngine { t.engine with pass := .window s.port.waiting.isSome }
  ((n.admitted.foldl State.engageRecord (u.applyDrops n.dropped)).applyCuts).writeBreach n

/-! ## The window (R47) -/

/-- R47: the window takes the command that was waiting at the publication, once. -/
def State.windowCommand (s : State) : State :=
  match s.engine.pass, s.port.waiting with
  | .window true, some c => (s.setEngine { s.engine with pass := .window false }).takeCmd c
  | _, _ => s

/-- R47, R54: the window takes the first of the deferred step expiries. -/
def State.windowExpiry (s : State) : State :=
  match s.engine.pass, s.ramp.deferred with
  | .window _, d + 1 => (s.setRamp { s.ramp with deferred := d }).takeStep
  | _, _ => s

/-- A number of deferred expiries taken one after the other. -/
def State.windowExpiries : Nat → State → State
  | 0, s => s
  | n + 1, s => State.windowExpiries n s.windowExpiry

/-- R47: the end of a window: a new pass where the rerun flag is set; otherwise the Engine is idle, and a command that began to
wait during the window is taken in the same event. -/
def State.closeWindow (s : State) : State :=
  match s.engine.pass with
  | .window _ =>
    if s.engine.rerun then s.startPass
    else
      let t := s.setEngine { s.engine with pass := .idle }
      match t.port.waiting with
      | some c => t.takeCmd c
      | none => t
  | _ => s

/-- R47: the rest of a window with nothing else falling in it, the waiting command taken after `k` of the expiries. -/
def State.runWindow (s : State) (k : Nat) : State :=
  let n := s.ramp.deferred
  (State.windowExpiries n (State.windowExpiries (min k n) s).windowCommand).closeWindow

/-- The publication itself, where a pass is in flight that has not published; a window already open stays as it is. -/
def State.publishIfRunning (s : State) : State :=
  match s.engine.pass with
  | .running n => s.publish n
  | _ => s

/-- PUBLICATION (R38, R47). -/
def execPublication (part : WindowPart) (s : State) : Host.Outcome State Fault Refusal :=
  whileRunning s fun s =>
    match part with
    | .whole k => s.publishIfRunning.runWindow k
    | .opened => s.publishIfRunning
    | .takeCommand => s.windowCommand
    | .takeExpiry => s.windowExpiry

end Sys2Proof.Machine
end

