-- ==== Sys2Proof/Machine/ResetUnit.lean ====
section
/-! DEFINITION. The two resets and their end (R205): what they abandon, what a pin reset keeps (R201), and the start of the
step timer (R53). -/

namespace Sys2Proof.Machine

/-- Every block at its reset values with given fault banks and the reset state given; the step timer runs only once the reset
has ended (R53). The queue of commands that are still to come is no part of the reset. -/
def State.restarted (s : State) (banks : Vector FaultBank 4) (r : ResetState) (step : Timer) (begun : Underway) : State :=
  { State.reset with
    banks := banks, resetState := r, ramp := { stepTimer := step, deferred := 0 }, underway := begun, pending := s.pending }

/-- Four empty banks (R194). -/
def emptyBanks : Vector FaultBank 4 := Vector.replicate 4 FaultBank.empty

/-- POWER_ON_RESET (R205, R201): a power-on reset begins, also while a pin reset lasts, and empties the fault banks. -/
def execPowerOnReset (s : State) : Host.Outcome State Fault Refusal :=
  .next (s.restarted emptyBanks .powerHeld none Underway.nothing)

/-- PIN_RESET (R205, R201): RESET goes low; the fault banks are kept. During a power-on reset it changes nothing further. -/
def execPinReset (s : State) : Host.Outcome State Fault Refusal :=
  .next (if s.resetState = .powerHeld then s else s.restarted s.banks .pinHeld none Underway.nothing)

/-- END_OF_RESET (R205, R53): every block holds its reset values and the step timer begins its first period; what has
begun by then and not ended is not taken. Outside a reset there is none to end. -/
def execEndOfReset (s : State) (begun : Underway := Underway.nothing) : Host.Outcome State Fault Refusal :=
  .next (if s.resetState = .running then s
    else s.restarted s.banks .running (some Config.stepPeriod) begun)

end Sys2Proof.Machine
end

