-- ==== Sys2Proof/Machine/Dispatch.lean ====
section
/-! DEFINITION. The meaning of every command and event of the table, one arm each. -/

namespace Sys2Proof.Machine

def exec (i : Instr) (s : State) : Host.Outcome State Fault Refusal :=
  match i with
  | .powerOnReset => Sys2Proof.Machine.execPowerOnReset s
  | .pinReset => Sys2Proof.Machine.execPinReset s
  | .endOfReset begun => Sys2Proof.Machine.execEndOfReset s begun
  | .put data executionFirst => Sys2Proof.Machine.execPut data s executionFirst
  | .take selectedEarly => Sys2Proof.Machine.execTake selectedEarly s
  | .abort => Sys2Proof.Machine.execAbort s
  | .unknownSelector selector data => Sys2Proof.Machine.execUnknownSelector s selector data
  | .transactionCutShort => Sys2Proof.Machine.execTransactionCutShort s
  | .openDraw slot tag attrs floor ceiling target upRate downRate feeders => Sys2Proof.Machine.execOpenDraw slot tag attrs floor ceiling target upRate downRate feeders s
  | .setTarget slot target => Sys2Proof.Machine.execSetTarget slot target s
  | .amendDraw slot attrs upRate downRate => Sys2Proof.Machine.execAmendDraw slot attrs upRate downRate s
  | .retireDraw slot => Sys2Proof.Machine.execRetireDraw slot s
  | .readDraw slot => Sys2Proof.Machine.execReadDraw slot s
  | .scanDraws condition value => Sys2Proof.Machine.execScanDraws condition value s
  | .setCap e0 => Sys2Proof.Machine.execSetCap e0 s
  | .readPlant => Sys2Proof.Machine.execReadPlant s
  | .setChannel channel enabled capacity => Sys2Proof.Machine.execSetChannel channel enabled capacity s
  | .rearmChannel channel => Sys2Proof.Machine.execRearmChannel channel s
  | .readChannel channel => Sys2Proof.Machine.execReadChannel channel s
  | .readLine line => Sys2Proof.Machine.execReadLine line s
  | .loadProfile index enabled mask polarity mode confirm retain tracking hold period step => Sys2Proof.Machine.execLoadProfile index enabled mask polarity mode confirm retain tracking hold period step s
  | .readProfile index => Sys2Proof.Machine.execReadProfile index s
  | .configureGrid level1 level2 level3 high uf overFreq ub db k fmin silence => Sys2Proof.Machine.execConfigureGrid level1 level2 level3 high uf overFreq ub db k fmin silence s
  | .configureTiming step stale lost engage release tolerance trackCount reentryLimit => Sys2Proof.Machine.execConfigureTiming step stale lost engage release tolerance trackCount reentryLimit s
  | .readGrid view => Sys2Proof.Machine.execReadGrid view s
  | .resume => Sys2Proof.Machine.execResume s
  | .senseAttention => Sys2Proof.Machine.execSenseAttention s
  | .endService source => Sys2Proof.Machine.execEndService source s
  | .setAttentionMask mask => Sys2Proof.Machine.execSetAttentionMask mask s
  | .readFaultBank bank => Sys2Proof.Machine.execReadFaultBank bank s
  | .clearFaultBank bank => Sys2Proof.Machine.execClearFaultBank bank s
  | .publication part => Sys2Proof.Machine.execPublication part s
  | .stepTimerExpiry => Sys2Proof.Machine.execStepTimerExpiry s
  | .engageTimerExpiry slot => Sys2Proof.Machine.execEngageTimerExpiry slot s
  | .releaseTimerExpiry slot => Sys2Proof.Machine.execReleaseTimerExpiry slot s
  | .fetch channel ready fault limit measured => Sys2Proof.Machine.execFetch channel ready fault limit measured s
  | .fetchDiscard line => Sys2Proof.Machine.execFetchDiscard line s
  | .fetchTimeLimit line => Sys2Proof.Machine.execFetchTimeLimit line s
  | .rectifierCharacterError line damage => Sys2Proof.Machine.execRectifierCharacterError line damage s
  | .replyBegin line => Sys2Proof.Machine.execReplyBegin line s
  | .grantComplete line => Sys2Proof.Machine.execGrantComplete line s
  | .collision line => Sys2Proof.Machine.execCollision line s
  | .staleTimerExpiry channel => Sys2Proof.Machine.execStaleTimerExpiry channel s
  | .lostTimerExpiry channel => Sys2Proof.Machine.execLostTimerExpiry channel s
  | .gridFrame second voltage unbalance deviation check => Sys2Proof.Machine.execGridFrame second voltage unbalance deviation check s
  | .gridFrameTimeLimit => Sys2Proof.Machine.execGridFrameTimeLimit s
  | .gridCharacterError damage => Sys2Proof.Machine.execGridCharacterError damage s
  | .silenceTimerExpiry => Sys2Proof.Machine.execSilenceTimerExpiry s
  | .holdTimerExpiry => Sys2Proof.Machine.execHoldTimerExpiry s
  | .restoreTimerExpiry => Sys2Proof.Machine.execRestoreTimerExpiry s
  | .rectifierLineCharacter line value => Sys2Proof.Machine.execRectifierLineCharacter line value s
  | .gridLineCharacter value => Sys2Proof.Machine.execGridLineCharacter value s

end Sys2Proof.Machine
end

