-- ==== Sys2Proof/Safety.lean ====
section
/-! DEFINITION. What a safe state of the part is: the laws the manual gives the table, the Sequencer, the port, the attention
sources and the fault banks, and the terms in which the statements about commands are made. -/

namespace Sys2Proof.Machine

/-! ## The laws -/

/-- R2: no two live records carry the same tag. -/
abbrev TagLaw (s : State) : Prop :=
  ∀ i j : Slot, (s.record i).live = true → (s.record j).live = true → (s.record i).tag = (s.record j).tag → i = j

/-- R11, R12: the channels of a record's feeder list are those its slot owns, so no channel is in the lists of two records. -/
abbrev FeederLaw (s : State) : Prop :=
  ∀ (i : Slot) (c : Chan), (∃ f ∈ (s.record i).feeders, f.channel = c) ↔ (s.channel c).owner = some i

/-- R6, R8: for every live record 1 ≤ floor ≤ target ≤ aim ≤ ceiling ≤ 4095. -/
abbrev BandLaw (s : State) : Prop :=
  ∀ i : Slot, (s.record i).live = true →
    1 ≤ (s.record i).floor ∧ (s.record i).floor ≤ (s.record i).target ∧ (s.record i).target ≤ (s.record i).aim
      ∧ (s.record i).aim ≤ (s.record i).ceiling ∧ (s.record i).ceiling ≤ 4095

/-- R1: a FREE record holds the FREE values. -/
abbrev FreeLaw (s : State) : Prop := ∀ i : Slot, (s.record i).state = .free → s.record i = DrawRecord.free

/-- R15: a record's present is 0 unless it is ACTIVE or RELEASING. -/
abbrev PresentLaw (s : State) : Prop :=
  ∀ i : Slot, (s.record i).present ≠ 0 → (s.record i).state = .active ∨ (s.record i).state = .releasing

/-- R13: a live record carries a held value exactly while the Sequencer is in RIDING, HOLDING, LATCHED, RESTORING or BLIND, and a
FREE record carries none. -/
abbrev HeldLaw (s : State) : Prop :=
  ∀ i : Slot, (s.record i).held.isSome = ((s.record i).live && s.seq.state.erInEffect)

/-- R108: the re-entry count never exceeds the re-entry limit, which is 1 to 15, and resume-required is set whenever the count
equals the limit. -/
abbrev ReentryLaw (s : State) : Prop :=
  1 ≤ s.timing.reentryLimit ∧ s.timing.reentryLimit ≤ 15 ∧ s.seq.reentries ≤ s.timing.reentryLimit
    ∧ (s.seq.reentries = s.timing.reentryLimit → s.seq.resumeRequired = true)

/-- Whether a run of frames counts below the confirm count of its candidate. -/
def State.runBelow (s : State) : Bool :=
  match s.seq.candidate with
  | some c => decide (1 ≤ s.seq.count) && decide (s.seq.count < (s.profile c).confirm)
  | none => false

/-- R98, R96: in CONFIRMING the count is at least 1 and below the confirm count of the candidate; in every other state the
candidate is none and the count 0. -/
abbrev ConfirmationLaw (s : State) : Prop :=
  if s.seq.state = .confirming then s.runBelow = true else s.seq.candidate = none ∧ s.seq.count = 0

/-- R151, R152: a command waits exactly in EXECUTION, only while a pass is in flight, is one of the commands that wait, and has
passed its range checks. -/
abbrev WaitingLaw (s : State) : Prop :=
  (s.port.waiting.isSome = true ↔ s.port.phase = .execution) ∧ (s.port.waiting.isSome = true → s.engine.pass.inFlight = true)
    ∧ ∀ c ∈ s.port.waiting, c.waits = true ∧ c.inRange = true

/-- R187: a source with a member set has IP set exactly while the set is not empty, and holds each member once, in rising order; a
source without one holds no member. -/
abbrev AttentionLaw (s : State) : Prop :=
  ∀ n : SourceNo, (s.source n).members.Pairwise (· < ·)
    ∧ if hasMembers n = true then ((s.source n).ip = true ↔ (s.source n).members ≠ []) else (s.source n).members = []

/-- R194: a bank that is not valid is empty in every field. -/
abbrev BankLaw (s : State) : Prop := ∀ b : BankNo, (s.bank b).valid = false → s.bank b = FaultBank.empty

/-- R44, R47, R54: a step expiry is deferred, and the rerun flag set, only while a pass is in flight. -/
abbrev FlightLaw (s : State) : Prop :=
  (s.ramp.deferred ≠ 0 → s.engine.pass.inFlight = true) ∧ (s.engine.rerun = true → s.engine.pass.inFlight = true)

/-- R10, R12, R62, R65, R67, R68, R74: every record names each of its feeders once, with a weight of at least 1; the shares of its
feeders sum to its present; its frozen shares sum to no more than that, and its feeders can carry it. A STALE channel's share is its
frozen share, and a channel that is unbound, or neither ONLINE nor STALE, has none. -/
abbrev ShareLaw (s : State) : Prop :=
  (∀ i : Slot, ((s.record i).feeders.map fun f => f.channel).Nodup ∧ (∀ f ∈ (s.record i).feeders, 1 ≤ f.weight)
    ∧ s.feederSum (s.record i).feeders (fun x => x.share) = (s.record i).present
    ∧ s.frozenSum i ≤ (s.record i).present ∧ (s.record i).present ≤ s.carrying i)
  ∧ ∀ c : Chan, ((s.channel c).owner = none → (s.channel c).share = 0)
    ∧ ((s.channel c).condition = .stale → (s.channel c).share = (s.channel c).frozen)
    ∧ ((s.channel c).condition ≠ .stale → (s.channel c).condition ≠ .online → (s.channel c).share = 0)

/-- R15: an ACTIVE record's present lies between its floor and its published grant; the published grant of an ENGAGING record is its
floor (R18). -/
abbrev GrantLaw (s : State) : Prop :=
  ∀ i : Slot, ((s.record i).state = .active →
      (s.record i).floor ≤ (s.record i).present ∧ (s.record i).present ≤ (s.record i).grant)
    ∧ ((s.record i).state = .engaging → (s.record i).grant = (s.record i).floor)

/-- R17, R45: the snapshot of a pass in flight agrees with the live records of the table: in their floors, and in which of them are
ENGAGING, or ACTIVE since they were. -/
abbrev PassLaw (s : State) : Prop :=
  match s.engine.pass with
  | .running n => ∀ i : Slot, (s.record i).live = true →
      (n.record i).floor = (s.record i).floor ∧ (n.record i).floor ≤ (n.record i).floorEff
        ∧ ((s.record i).state = .active → (n.record i).state = .active ∨ (n.record i).state = .engaging)
        ∧ ((s.record i).state = .engaging → (n.record i).state = .engaging)
  | .idle => True
  | .window _ => True

/-- R41: while the breach indication is clear, the sum of the published grants and the sum of the presents do not exceed the published
cap. -/
abbrev CapLaw (s : State) : Prop :=
  s.engine.breach = false →
    (slots.map fun i => (s.record i).grant).sum ≤ s.engine.publishedCap
      ∧ (slots.map fun i => (s.record i).present).sum ≤ s.engine.publishedCap

/-- R41, R57: a RELEASING record's present is at most its published grant, and at most the present it entered the pass in flight
with as RELEASING; a present only falls while the record is RELEASING. -/
abbrev ReleaseLaw (s : State) : Prop :=
  ∀ i : Slot, (s.record i).state = .releasing → (s.record i).present ≤ (s.record i).grant
    ∧ match s.engine.pass with
      | .running n => (n.record i).state = .releasing ∧ (s.record i).present ≤ (n.record i).present
      | .idle => True
      | .window _ => True

/-! ## Terms of the statements -/

/-- No reset lasts. -/
abbrev State.up (s : State) : Prop := s.resetState = .running

/-- R205: no reset lasts, and the port is not in the middle of a transaction that began before the end of one. -/
abbrev State.attends (s : State) : Prop := s.up ∧ s.underway.port = false

/-- R205: no reset lasts, and no character that began before the end of one is still going on on a rectifier line. -/
abbrev State.hears (s : State) (l : LineNo) : Prop := s.up ∧ s.underway.lines.get l = false

/-- R205: the same of the grid line. -/
abbrev State.hearsGrid (s : State) : Prop := s.up ∧ s.underway.grid = false

/-- The port is in COMMAND with no code taken: the next byte put is a command code. -/
abbrev State.ready (s : State) : Prop := s.attends ∧ s.port.phase = .command ∧ s.port.code = none

/-- The pass state is IDLE. -/
abbrev State.idle (s : State) : Prop := s.engine.pass = .idle

/-- R154: the state with a command's code and parameter bytes taken, its result offered from the first byte, and SLIP clear since
the code was taken. -/
def State.answered (s : State) (c : CmdCode) (params result : List Byte) : State :=
  (s.setPort { phase := .result, slip := false, code := some c, params := params, expected := params.length,
               waiting := none, result := result, readPos := 0 }).setSdo 0x00

/-- R152: the state with a command that has passed its range checks held as the waiting command. -/
def State.holding (s : State) (c : CmdCode) (params : List Byte) (cmd : Cmd) : State :=
  (s.setPort { s.port with phase := .execution, slip := false, code := some c, params := params, expected := params.length,
                           waiting := some cmd }).setSdo 0x00

/-- The code and the parameter bytes each supervisor command of the table stands for, in the order of section 10.5. -/
def sentBytes : Instr → Option (CmdCode × List Byte)
  | .openDraw slot tag attrs floor ceiling target up down fs =>
    some (.openDraw, [slot, tag, attrs] ++ wordBytes floor ++ wordBytes ceiling ++ wordBytes target
      ++ [up, down, byteOf fs.length] ++ fs.flatMap fun f => [f.1, f.2])
  | .setTarget slot target => some (.setTarget, slot :: wordBytes target)
  | .amendDraw slot attrs up down => some (.amendDraw, [slot, attrs, up, down])
  | .retireDraw slot => some (.retireDraw, [slot])
  | .readDraw slot => some (.readDraw, [slot])
  | .scanDraws condition value => some (.scanDraws, condition :: wordBytes value)
  | .setCap e0 => some (.setCap, wordBytes e0)
  | .readPlant => some (.readPlant, [])
  | .setChannel channel enabled capacity => some (.setChannel, channel :: enabled :: wordBytes capacity)
  | .rearmChannel channel => some (.rearmChannel, [channel])
  | .readChannel channel => some (.readChannel, [channel])
  | .readLine line => some (.readLine, [line])
  | .loadProfile index enabled mask polarity mode confirm retain tracking hold period step =>
    some (.loadProfile, [index, enabled, mask, polarity, mode, confirm] ++ wordBytes retain ++ [tracking, hold, period]
      ++ wordBytes step)
  | .readProfile index => some (.readProfile, [index])
  | .configureGrid l1 l2 l3 high uf overFreq ub db k fmin silence =>
    some (.configureGrid, wordBytes l1 ++ wordBytes l2 ++ wordBytes l3 ++ wordBytes high ++ wordBytes uf
      ++ wordBytes overFreq ++ wordBytes ub ++ [db, k] ++ wordBytes fmin ++ [silence])
  | .configureTiming step stale lost engage release tolerance trackCount limit =>
    some (.configureTiming, [step, stale, lost, engage, release, tolerance, trackCount, limit])
  | .readGrid view => some (.readGrid, [view])
  | .resume => some (.resume, [])
  | .senseAttention => some (.senseAttention, [])
  | .endService source => some (.endService, [source])
  | .setAttentionMask mask => some (.setAttentionMask, [mask])
  | .readFaultBank bank => some (.readFaultBank, [bank])
  | .clearFaultBank bank => some (.clearFaultBank, [bank])
  | .powerOnReset => none
  | .pinReset => none
  | .endOfReset _ => none
  | .put _ _ => none
  | .take _ => none
  | .abort => none
  | .unknownSelector _ _ => none
  | .transactionCutShort => none
  | .publication _ => none
  | .stepTimerExpiry => none
  | .engageTimerExpiry _ => none
  | .releaseTimerExpiry _ => none
  | .fetch _ _ _ _ _ => none
  | .fetchDiscard _ => none
  | .fetchTimeLimit _ => none
  | .rectifierCharacterError _ _ => none
  | .replyBegin _ => none
  | .grantComplete _ => none
  | .collision _ => none
  | .staleTimerExpiry _ => none
  | .lostTimerExpiry _ => none
  | .gridFrame _ _ _ _ _ => none
  | .gridFrameTimeLimit => none
  | .gridCharacterError _ => none
  | .silenceTimerExpiry => none
  | .holdTimerExpiry => none
  | .restoreTimerExpiry => none
  | .rectifierLineCharacter _ _ => none
  | .gridLineCharacter _ => none

/-- R99: a record's held value after a ride snapshot. -/
def heldAfter (r : DrawRecord) : Option Nat :=
  if r.state = .free then r.held else some (if r.present = 0 then r.floor else r.present)

/-- R186, R187: from `s` to `t` the occurrences of a source with a member set are those of the given members: they are added to its
set, IP sets where there is one, and IE and IUS stay. -/
abbrev Raises (s t : State) (n : SourceNo) (raised : Nat → Prop) : Prop :=
  (t.source n).ie = (s.source n).ie ∧ (t.source n).ius = (s.source n).ius
    ∧ (∀ m : Nat, m ∈ (t.source n).members ↔ m ∈ (s.source n).members ∨ raised m)
    ∧ ((t.source n).ip = true ↔ (s.source n).ip = true ∨ ∃ m : Nat, raised m)

/-- R1, R12: from `s` to `u` the record at a slot becomes FREE and its feeders are unbound, keeping their settings and their last
reports; nothing else changes. -/
abbrev Freed (s u : State) (i : Slot) : Prop :=
  u.record i = DrawRecord.free ∧ (∀ j : Slot, j ≠ i → u.record j = s.record j)
    ∧ (∀ c : Chan, (∃ f ∈ (s.record i).feeders, f.channel = c) →
        u.channel c = { enabled := (s.channel c).enabled, capacity := (s.channel c).capacity, owner := none, condition := .idle,
                        share := 0, frozen := 0, clamp := none, tracking := false, mismatch := 0,
                        lastMeasured := (s.channel c).lastMeasured, lastStatus := (s.channel c).lastStatus, staleTimer := none,
                        lostTimer := none })
    ∧ (∀ c : Chan, (∀ f ∈ (s.record i).feeders, f.channel ≠ c) → u.channel c = s.channel c)
    ∧ { u with table := s.table, channels := s.channels } = s

/-- R20: from `s` to `u` the record at a slot becomes FAULTED with present 0 and the shares of its feeders 0; the capture names the
slot, and DROP is raised; nothing else changes. -/
abbrev FaultedAt (s u : State) (i : Slot) (x : FaultName) : Prop :=
  u.table = (s.setRecord i { s.record i with state := .faulted, present := 0, engageTimer := none }).table
    ∧ (∀ f ∈ (s.record i).feeders, u.channel f.channel = { s.channel f.channel with share := 0, frozen := 0 })
    ∧ (∀ c : Chan, (∀ f ∈ (s.record i).feeders, f.channel ≠ c) → u.channel c = s.channel c)
    ∧ u.banks = (s.capture x i.val).banks
    ∧ u.attention = ((s.capture x i.val).occurMember srcDrop i.val).attention
    ∧ { u with table := s.table, channels := s.channels, attention := s.attention, banks := s.banks } = s

/-- R141: from `s` to `t` the frame open on a rectifier line, or the reply being sent, is given up and flags are set, SUM with them. Where
that takes one of them from clear to set, LINE is raised and LINE_ERROR captured, with the line as member and index; nothing else
changes. -/
abbrev LineFault (s t : State) (l : LineNo) (mask : Byte) : Prop :=
  t.line l = { s.line l with receiver := .hunting, flags := (s.line l).flags ||| mask ||| 0x80 }
    ∧ (∀ k : LineNo, k ≠ l → t.line k = s.line k)
    ∧ ((s.line l).flags ||| mask = (s.line l).flags → { t with lines := s.lines } = s)
    ∧ ((s.line l).flags ||| mask ≠ (s.line l).flags →
        { t with lines := s.lines } = (s.occurMember srcLine l.val).capture .lineError l.val)

/-- R80: the same on the grid line, whose number is 8. -/
abbrev GridFault (s t : State) (mask : Byte) : Prop :=
  t.grid = { s.grid with receiver := .hunting, flags := s.grid.flags ||| mask ||| 0x80 }
    ∧ (s.grid.flags ||| mask = s.grid.flags → { t with grid := s.grid } = s)
    ∧ (s.grid.flags ||| mask ≠ s.grid.flags → { t with grid := s.grid } = (s.occurMember srcLine 8).capture .lineError 8)

/-- R101, R153: from `s` to `t` a ride-through begins: RIDE is raised, and a waiting command is overtaken; nothing else changes but
the draw records and the Sequencer. -/
abbrev RideBegins (s t : State) : Prop :=
  t.attention = (s.occur srcRide).attention
    ∧ (s.port.waiting = none → t.port = s.port)
    ∧ (s.port.waiting ≠ none →
        t.port = { s.port with phase := .result, waiting := none, result := [0xC0, 0x00], readPos := 0 })
    ∧ { t with table := s.table, seq := s.seq, attention := s.attention, port := s.port } = s

/-- R100: the fraction of the snapshot current a profile keeps, in per mille, for a frame's voltage. -/
def keeps (p : Profile) (voltage : Nat) : Nat := if p.tracking = true then min p.retain (min voltage 1000) else p.retain

/-- R99: the snapshot current of a state. -/
def State.current (s : State) : Nat := min ((slots.map fun i => (s.record i).present).sum) 65535

/-- R63: the open set and the amount still to place at the start of each round of a record's split. The first round opens with the
ONLINE feeders and what the frozen shares leave of the present; a round that fixes a feeder at its usable capacity is followed by one
with the feeders it did not fix and what is then still to place. -/
inductive OpensRound (s : State) (i : Slot) : List Feeder → Nat → Prop
  | first : OpensRound s i ((s.record i).feeders.filter fun f => decide ((s.channel f.channel).condition = .online))
      ((s.record i).present - s.frozenSum i)
  | next (os full rest : List Feeder) (r w : Nat) : OpensRound s i os r → w = (os.map fun f => f.weight).sum →
      full = os.filter (fun f => decide ((s.channel f.channel).usable ≤ r * f.weight / w)) → full ≠ [] →
      rest = os.filter (fun f => decide (r * f.weight / w < (s.channel f.channel).usable)) →
      OpensRound s i rest (r - (full.map fun f => (s.channel f.channel).usable).sum)

/-- R91: whether a profile fits a condition byte. -/
abbrev Fits (p : Profile) (conditions : Byte) : Prop :=
  p.enabled = true ∧ p.mask ≠ 0
    ∧ (p.mode = .all → ∀ k : Nat, k < 8 → p.mask.getLsbD k = true → conditions.getLsbD k = p.polarity.getLsbD k)
    ∧ (p.mode = .any → ∃ k : Nat, k < 8 ∧ p.mask.getLsbD k = true ∧ conditions.getLsbD k = p.polarity.getLsbD k)

/-- R108: from `s` to `u` the Sequencer reaches NORMAL: no profile is in use, the re-entry count is 0, resume-required is clear, both
timers are stopped, every held value is removed, and CLEAR is raised; nothing else changes. -/
abbrev ReachesNormal (s u : State) : Prop :=
  (∀ i : Slot, u.record i = { s.record i with held := none })
    ∧ u.seq = { s.seq with state := .normal, inUse := none, reentries := 0, resumeRequired := false, holdTimer := none,
                           restoreTimer := none }
    ∧ u.attention = (s.occur srcClear).attention
    ∧ { u with table := s.table, seq := s.seq, attention := s.attention } = s

end Sys2Proof.Machine
end

