-- ==== Sys2Proof/Certificates/Slice0/Obligations.lean ====
section
/-! DEFINITION. The statements about the part, from the numbered rules of the manual. A command row is a command sent whole; its
statements speak of a port in COMMAND with no code taken (`State.ready`), and PUT has a statement of its own for every other state of
the port. `State.answered` is the port offering a result (R154), `State.requestPass` a pass request (R44). -/

open Sys2Proof Sys2Proof.Machine

/-! ## The part as a machine, and its resets -/

/-- A step runs the command at the front of the queue on the state with the rest of the queue. With nothing waiting the part
idles (the model's choice, log entry 1). -/
def Obligations.StepTakesFrontCommand : Prop :=
  (∀ (s : State) (c : Instr) (rest : List Instr), s.pending = c :: rest → step s = exec c { s with pending := rest })
    ∧ ∀ s : State, s.pending = [] → step s = .next s

/-- R23, R51, R75, R95, R119, R144, R158, R193, R201: what reset leaves, block by block, with the status byte 0x84 and ATTN
deasserted. -/
def Obligations.ResetLeavesResetValues : Prop :=
  (∀ i : Slot, State.reset.record i =
      { state := .free, tag := 0, cls := .a, rank := 0, lock := false, exempt := false, floor := 0, ceiling := 0, target := 0,
        aim := 0, upRate := 0, downRate := 0, feeders := [], held := none, grant := 0, present := 0, engageTimer := none,
        releaseTimer := none })
    ∧ (∀ c : Chan, State.reset.channel c =
      { enabled := false, capacity := 0, owner := none, condition := .idle, share := 0, frozen := 0, clamp := none,
        tracking := false, mismatch := 0, lastMeasured := 0, lastStatus := 0, staleTimer := none, lostTimer := none })
    ∧ (∀ l : LineNo, State.reset.line l = { receiver := .hunting, reply := none, flags := 0 })
    ∧ State.reset.timing = { stepPeriod := 20, staleTime := 40, lostTime := 50, engageTime := 200, releaseTime := 100,
                             tolerance := 40, trackCount := 5, reentryLimit := 3 }
    ∧ State.reset.ramp = { stepTimer := some 20, deferred := 0 }
    ∧ State.reset.seq = { state := .blind, inUse := some 8, candidate := none, count := 0, i0 := 0, er := 0, reentries := 0,
                          resumeRequired := false, holdTimer := none, restoreTimer := none,
                          profiles := State.reset.seq.profiles }
    ∧ (∀ p : ProfileNo, State.reset.profile p =
      { enabled := false, mask := 0, polarity := 0, mode := .all, confirm := 1, retain := if p = 8 then 700 else 1000,
        tracking := false, hold := 50, period := 20, step := 100 })
    ∧ State.reset.grid = { receiver := .hunting, flags := 0, frameSeen := false, voltage := 0, unbalance := 0, deviation := 0,
                           sequence := 0, pj := false, conditions := 0, seqRef := none, f := 1000, silenceTimer := none,
                           settings := { level1 := 850, level2 := 500, level3 := 150, high := 1100, uf := 20, overFreq := 20,
                                         ub := 50, db := 2, k := 0, fmin := 500, silence := 5 } }
    ∧ State.reset.engine = { e0 := 0, publishedCap := 0, pubNumber := 0, pass := .idle, rerun := false, breach := false }
    ∧ State.reset.port = { phase := .command, slip := false, code := none, params := [], expected := 0, waiting := none,
                           result := [], readPos := 0 }
    ∧ (∀ n : SourceNo, State.reset.source n = { ie := false, ip := false, ius := false, members := [] })
    ∧ (∀ b : BankNo, State.reset.bank b = { valid := false, overflow := false, severity := .none, code := 0, index := 0,
                                            seqState := .normal })
    ∧ State.reset.mainStatus = 0x84 ∧ State.reset.attn = false

/-- The laws of the statements below hold right after reset. -/
def Obligations.LawsHoldAfterReset : Prop :=
  TagLaw State.reset ∧ FeederLaw State.reset ∧ BandLaw State.reset ∧ FreeLaw State.reset ∧ PresentLaw State.reset
    ∧ GrantLaw State.reset ∧ CapLaw State.reset ∧ ReleaseLaw State.reset ∧ PassLaw State.reset ∧ ShareLaw State.reset
    ∧ HeldLaw State.reset ∧ ReentryLaw State.reset ∧ ConfirmationLaw State.reset ∧ WaitingLaw State.reset
    ∧ FlightLaw State.reset ∧ AttentionLaw State.reset ∧ BankLaw State.reset

/-- R205, R201, R53: a reset row puts every block at its reset values; a power-on reset empties the fault banks and a pin reset
keeps them; the step timer runs again only from the end of the reset; a pin reset during a power-on reset changes nothing. R205, R145:
while a reset lasts transactions and characters are ignored and nothing else acts: every command but the three reset rows leaves the
part as it is. R205: a transaction or a character that began before the end of a reset is ignored when it ends after it, and takes
nothing else with it. That an END_OF_RESET outside a reset, and a FETCH_DISCARD while such a character goes on, change nothing, and
that the block values are taken already while the reset lasts, are the model's (log entries 4 and 12). -/
def Obligations.ResetsRestartAndHoldThePart : Prop :=
  (∀ s : State,
      exec .powerOnReset s = .next { State.reset with resetState := .powerHeld, ramp := { stepTimer := none, deferred := 0 },
                                                      pending := s.pending }
      ∧ (s.resetState ≠ .powerHeld →
          exec .pinReset s = .next { State.reset with banks := s.banks, resetState := .pinHeld,
                                                      ramp := { stepTimer := none, deferred := 0 }, pending := s.pending })
      ∧ (s.resetState = .powerHeld → exec .pinReset s = .next s)
      ∧ ∀ begun : Underway,
        (s.resetState ≠ .running →
          exec (.endOfReset begun) s = .next { State.reset with banks := s.banks, underway := begun, pending := s.pending })
        ∧ (s.resetState = .running → exec (.endOfReset begun) s = .next s))
  ∧ (∀ (c : Instr) (s : State), s.resetState ≠ .running → c ≠ .powerOnReset → c ≠ .pinReset →
      (∀ begun : Underway, c ≠ .endOfReset begun) → exec c s = .next s)
  ∧ ∀ (s t : State), s.up →
      (s.underway.port = true → t = { s with underway := { s.underway with port := false } } →
        (∀ (b : Byte) (early : Bool), exec (.put b early) s = .next t) ∧ (∀ early : Bool, exec (.take early) s = .next t)
          ∧ exec .abort s = .next t ∧ (∀ x b : Byte, exec (.unknownSelector x b) s = .next t) ∧ exec .transactionCutShort s = .next t)
      ∧ (∀ l : LineNo, s.underway.lines.get l = true →
          t = { s with underway := { s.underway with lines := s.underway.lines.set l false } } →
          (∀ b : Byte, exec (.rectifierLineCharacter l b) s = .next t)
          ∧ (∀ d : CharFault, exec (.rectifierCharacterError l d) s = .next t) ∧ exec (.fetchDiscard l) s = .next s)
      ∧ (s.underway.grid = true → t = { s with underway := { s.underway with grid := false } } →
          (∀ b : Byte, exec (.gridLineCharacter b) s = .next t) ∧ ∀ d : CharFault, exec (.gridCharacterError d) s = .next t)

/-! ## The supervisor port: transactions (chapter 7) -/

/-- R148 to R152: a PUT out of turn; an unknown code; a known code, which is taken at once where it is that of a command without
parameters; a parameter byte; the feeder count of OPEN DRAW; and a last parameter byte, whose command completes INVALID, waits or is
taken as its range checks and the pass state say, whatever came between its bytes. R152: where a pass is just starting and EXECUTION is
taken first, the command is taken at once, the pass starts with its effect in the snapshot, and the rerun flag is set where the command
raised a request of its own; which passes are just starting is the model's (log entry 26). A command that waits in a publication window
is one that window does not take (log entry 25). That the expected count is 0 after a bad feeder count, and that an unknown code leaves
the command code absent, are the model's (log entry 8). -/
def Obligations.PutTransactionActsByPhase : Prop :=
  ∀ (s : State) (b : Byte) (early : Bool), s.attends →
    (s.port.phase ≠ .command → exec (.put b early) s = .next { s with port := { s.port with slip := true }, sdo := 0x00 })
    ∧ (s.ready → (∀ c : CmdCode, c.byte ≠ b) →
        exec (.put b early) s = .next { s with port := { s.port with phase := .result, slip := false, waiting := none,
                                                                     result := [0x80, 0x80], readPos := 0 }, sdo := 0x00 })
    ∧ (∀ c : CmdCode, s.ready → c.byte = b → c ≠ .readPlant → c ≠ .resume → c ≠ .senseAttention →
        exec (.put b early) s = .next { s with port := { s.port with slip := false, code := some c, params := [],
                                                                     expected := c.paramCount }, sdo := 0x00 })
    ∧ (∀ c : CmdCode, s.port.phase = .command → s.port.code = some c → ¬(c = .openDraw ∧ s.port.params.length = 11) →
        s.port.params.length + 1 ≠ s.port.expected →
        exec (.put b early) s = .next { s with port := { s.port with params := s.port.params ++ [b] }, sdo := 0x00 })
    ∧ (s.port.phase = .command → s.port.code = some .openDraw → s.port.params.length = 11 → 1 ≤ b.toNat → b.toNat ≤ 4 →
        exec (.put b early) s = .next { s with port := { s.port with params := s.port.params ++ [b],
                                                                     expected := 12 + 2 * b.toNat }, sdo := 0x00 })
    ∧ (s.port.phase = .command → s.port.code = some .openDraw → s.port.params.length = 11 → (b.toNat = 0 ∨ 4 < b.toNat) →
        exec (.put b early) s = .next { s with port := { phase := .result, slip := s.port.slip, code := none, params := [],
                                                         expected := 0, waiting := none, result := [0x80, 0x80], readPos := 0 },
                                               sdo := 0x00 })
    ∧ (∀ c : CmdCode, s.port.phase = .command → s.port.code = some c → ¬(c = .openDraw ∧ s.port.params.length = 11) →
        s.port.params.length + 1 = s.port.expected → parseCmd c (s.port.params ++ [b]) = none →
        exec (.put b early) s = .next { s with port := { s.port with phase := .result, params := s.port.params ++ [b],
                                                                     waiting := none, result := [0x80, 0x80], readPos := 0 },
                                               sdo := 0x00 })
    ∧ (s.ready →
        exec (.put 0x21 early) s = .next ((perform .readPlant s).1.answered .readPlant [] (perform .readPlant s).2)
        ∧ exec (.put 0x45 early) s = .next ((perform .resume s).1.answered .resume [] (perform .resume s).2)
        ∧ exec (.put 0x50 early) s = .next ((perform .senseAttention s).1.answered .senseAttention [] (perform .senseAttention s).2))
    ∧ ∀ (c : CmdCode) (cmd : Cmd) (ps : List Byte), s.port.phase = .command → s.port.code = some c →
        ¬(c = .openDraw ∧ s.port.params.length = 11) → s.port.params.length + 1 = s.port.expected →
        ps = s.port.params ++ [b] → parseCmd c ps = some cmd →
        (cmd.waits = false ∨ s.engine.pass = .idle →
          exec (.put b early) s = .next { (perform cmd s).1 with
            port := { s.port with phase := .result, params := ps, waiting := none, result := (perform cmd s).2, readPos := 0 },
            sdo := 0x00 })
        ∧ (∀ n, cmd.waits = true → s.engine.pass = .running n → early = false ∨ n ≠ s.snapshot ∨ s.engine.rerun = true →
          exec (.put b early) s = .next { s with port := { s.port with phase := .execution, params := ps, waiting := some cmd },
                                                 sdo := 0x00 })
        ∧ (∀ due, cmd.waits = true → s.engine.pass = .window due →
          exec (.put b early) s = .next { s with engine := { s.engine with pass := .window false },
                                                 port := { s.port with phase := .execution, params := ps, waiting := some cmd },
                                                 sdo := 0x00 })
        ∧ (∀ (u : State) (result : List Byte), cmd.waits = true → early = true → s.engine.pass = .running s.snapshot →
          s.engine.rerun = false → perform cmd { s with engine := { s.engine with pass := .idle } } = (u, result) →
          exec (.put b early) s = .next { u with
            engine := { u.engine with pass := .running u.snapshot, rerun := decide (u.engine.pass ≠ .idle) },
            port := { s.port with phase := .result, params := ps, waiting := none, result := result, readPos := 0 },
            sdo := 0x00 })

/-- R154, R148, R145: a TAKE in turn shifts out the byte at the read position; the last one returns the port to COMMAND with the
code absent and both buffers empty; a TAKE out of turn, or judged while the port was not in RESULT, shifts out 0x00 and sets SLIP.
(That the expected count goes back to 0 is the model's, log entry 8.) R156, R146, R157: ABORT returns the port to COMMAND from wherever
it stands, with SLIP clear, and touches no other block; a selector that is none of the four and a transaction cut short set SLIP and do
nothing else; the four selectors are 0x3C STATUS, which shifts out the main status byte and changes nothing else, 0x5A PUT, 0xA5 TAKE
and 0xC3 ABORT. (That the row of the unknown selectors stands for STATUS, which has none of its own, is the model's, log entry 7.) -/
def Obligations.TakeAbortAndBadTransactions : Prop :=
  (∀ (s : State) (b : Byte), s.attends →
      (s.port.phase = .result → s.port.result[s.port.readPos]? = some b → s.port.readPos + 1 < s.port.result.length →
          exec (.take false) s = .next { s with port := { s.port with readPos := s.port.readPos + 1 }, sdo := b })
      ∧ (s.port.phase = .result → s.port.result[s.port.readPos]? = some b → s.port.readPos + 1 = s.port.result.length →
          exec (.take false) s = .next { s with port := { s.port with phase := .command, code := none, params := [], expected := 0,
                                                                      result := [], readPos := 0 }, sdo := b })
      ∧ (s.port.phase ≠ .result → exec (.take false) s = .next { s with port := { s.port with slip := true }, sdo := 0x00 })
      ∧ exec (.take true) s = .next { s with port := { s.port with slip := true }, sdo := 0x00 })
  ∧ ∀ s : State, s.attends →
      exec .abort s = .next { s with port := { phase := .command, slip := false, code := none, params := [], expected := 0,
                                               waiting := none, result := [], readPos := 0 }, sdo := 0x00 }
      ∧ exec .transactionCutShort s = .next { s with port := { s.port with slip := true } }
      ∧ ∀ x b : Byte,
        (x ≠ 0x3C → x ≠ 0x5A → x ≠ 0xA5 → x ≠ 0xC3 →
          exec (.unknownSelector x b) s = .next { s with port := { s.port with slip := true }, sdo := 0x00 })
        ∧ exec (.unknownSelector 0x3C b) s = .next { s with sdo := s.mainStatus }
        ∧ exec (.unknownSelector 0x5A b) s = exec (.put b) s
        ∧ exec (.unknownSelector 0xA5 b) s = exec (.take false) s
        ∧ exec (.unknownSelector 0xC3 b) s = exec .abort s

/-- R147, R148, R188: the ATTN pin is asserted, outside a reset, exactly while some source has IP and IE set and no source of equal
or higher priority is in service; and the seven items of the main status byte lie in their bits. R204, R205: the SDO output is high
impedance while chip select is high and throughout a reset. R145: in a transaction it carries 0x00 in every byte but the data byte,
and there the byte fixed as the selector was complete: the main status byte for STATUS, the next result byte for a TAKE in turn, 0x00
otherwise; the byte of a transaction that acts is the one recorded. -/
def Obligations.AttnPinAndMainStatus : Prop :=
  ∀ s : State,
    (s.attn = true ↔ s.up ∧ ∃ n : SourceNo, (s.source n).ip = true ∧ (s.source n).ie = true
        ∧ ∀ m : SourceNo, m ≤ n → (s.source m).ius = false)
    ∧ s.mainStatus.getLsbD 7 = decide (s.port.phase ≠ .execution)
    ∧ s.mainStatus.getLsbD 6 = decide (s.port.phase = .result)
    ∧ s.mainStatus.getLsbD 5 = decide (s.port.phase = .result)
    ∧ s.mainStatus.getLsbD 4 = decide (s.port.phase = .execution)
    ∧ s.mainStatus.getLsbD 3 = decide (s.engine.pass ≠ .idle)
    ∧ s.mainStatus.getLsbD 2 = decide (s.seq.state ≠ .normal)
    ∧ s.mainStatus.getLsbD 1 = s.attn
    ∧ s.mainStatus.getLsbD 0 = s.port.slip
    ∧ s.sdoOutput .high = .highImpedance
    ∧ (¬s.up → ∀ select : ChipSelect, s.sdoOutput select = .highImpedance)
    ∧ (s.attends → s.sdoOutput .selectorByte = .byte 0x00 ∧ s.sdoOutput .beyond = .byte 0x00
      ∧ (∀ b : Byte, s.sdoOutput (.dataByte b) = .byte b)
      ∧ (∀ (x data : Byte) (t : State), exec (.unknownSelector x data) s = .next t → t.sdo = s.dataOut (selectorOf x) false))
    ∧ s.dataOut (selectorOf 0x3C) false = s.mainStatus
    ∧ (∀ b : Byte, s.port.phase = .result → s.port.result[s.port.readPos]? = some b → s.dataOut (selectorOf 0xA5) false = b)
    ∧ (s.port.phase ≠ .result → s.dataOut (selectorOf 0xA5) false = 0x00)
    ∧ ∀ x : Byte, x ≠ 0x3C → x ≠ 0xA5 → s.dataOut (selectorOf x) false = 0x00

/-! ## How a command is judged (chapters 7 and 8) -/

/-- R151, R159, R150: a command sent whole whose bytes fail a range check, or an OPEN DRAW whose feeder count is outside 1 to 4,
completes INVALID with reason RANGE and changes nothing but the port; bytes sent after a bad feeder count are slips (section 7.8).
That the expected count is 0 then is the model's (log entry 8); a list of more than 255 feeders is no byte that can be sent. -/
def Obligations.InvalidCommandsChangeNothing : Prop :=
  (∀ (c : Instr) (code : CmdCode) (ps : List Byte) (s : State), sentBytes c = some (code, ps) → s.ready →
      (∀ a b d e f g h i fs, c = .openDraw a b d e f g h i fs → 1 ≤ fs.length ∧ fs.length ≤ 4) → parseCmd code ps = none →
      exec c s = .next (s.answered code ps [0x80, 0x80]))
    ∧ ∀ (slot tag attrs : Byte) (floor ceiling target : Word) (up down : Byte) (fs : List (Byte × Byte)) (s : State),
      s.ready → fs.length ≤ 255 → (fs.length = 0 ∨ 4 < fs.length) →
      exec (.openDraw slot tag attrs floor ceiling target up down fs) s =
        .next { s with port := { phase := .result, slip := decide (fs ≠ []), code := none, params := [], expected := 0,
                                 waiting := none, result := [0x80, 0x80], readPos := 0 }, sdo := 0x00 }

/-- A command row is the PUTs of its code and its parameter bytes, in any state of the port: the model's reading (log entry 2). R151,
R152, R154, R159, R47: the seven commands that change the table, the cap or channel configuration wait while a pass is in flight, and
change nothing but the port; one that comes in a publication window is not one that window takes (log entry 25). Any other command in
range, and one of the seven while no pass is in flight, is taken at once: it has its effect and its result is offered. That no pass is
just starting while a row's bytes come is part of that reading. -/
def Obligations.CommandsAreTakenOrWait : Prop :=
  (∀ cmd : Cmd, cmd.waits = true ↔
      cmd.code ∈ [CmdCode.openDraw, .setTarget, .amendDraw, .retireDraw, .setCap, .setChannel, .rearmChannel])
    ∧ ∀ (c : Instr) (code : CmdCode) (ps : List Byte) (s : State), sentBytes c = some (code, ps) →
      exec c s = (code.byte :: ps).foldl (fun out b => match out with
          | .next u => exec (.put b) u
          | out => out) (.next s)
      ∧ ∀ cmd : Cmd, s.ready → parseCmd code ps = some cmd →
        (∀ n, cmd.waits = true → s.engine.pass = .running n → exec c s = .next (s.holding code ps cmd))
        ∧ (∀ due, cmd.waits = true → s.engine.pass = .window due →
          exec c s = .next ((s.setEngine { s.engine with pass := .window false }).holding code ps cmd))
        ∧ (cmd.waits = false ∨ s.engine.pass = .idle →
          exec c s = .next ((perform cmd s).1.answered code ps (perform cmd s).2))

/-- R161 to R163, R178 to R182, section 10.5: the parameter bytes of every command in range read back as that command, and every
list of bytes that passes the range checks of a code is a command of that code in range. -/
def Obligations.CommandBytesReadBack : Prop :=
  (∀ cmd : Cmd, cmd.inRange = true → parseCmd cmd.code cmd.params = some cmd)
    ∧ ∀ (code : CmdCode) (ps : List Byte) (cmd : Cmd), parseCmd code ps = some cmd → cmd.code = code ∧ cmd.inRange = true

/-! ## Draw records (chapters 1 and 8) -/

/-- R11, R13, R17, R163, R164: an OPEN DRAW in range whose state checks pass makes the slot's record PENDING with its target clamped
to its ceiling, its aim equal to the target and, during a ride-through, its floor as held value; binds its feeders; and completes
DONE with the slot, the state code 1 and the CLAMP bit where the target was clamped. -/
def Obligations.OpenDrawOpensRecord : Prop :=
  ∀ (slot tag attrs : Byte) (floor ceiling target : Word) (up down : Byte) (fs : List Feeder) (i : Slot) (cls : DrawClass)
    (s : State), s.ready → s.idle →
    slot.toNat = i.val → 1 ≤ tag.toNat → tag.toNat ≤ 254 → attrs.toNat / 64 = cls.code →
    1 ≤ floor.toNat → floor.toNat ≤ ceiling.toNat → ceiling.toNat ≤ 4095 → floor.toNat ≤ target.toNat → target.toNat ≤ 4095 →
    1 ≤ up.toNat → 1 ≤ down.toNat → 1 ≤ fs.length → fs.length ≤ 4 → (fs.map fun f => f.channel).Nodup →
    (∀ f ∈ fs, 1 ≤ f.weight ∧ f.weight ≤ 15 ∧ (s.channel f.channel).enabled = true ∧ (s.channel f.channel).owner = none) →
    (s.record i).state = .free → (∀ j : Slot, (s.record j).state ≠ .free → (s.record j).tag ≠ tag.toNat) →
    floor.toNat ≤ (fs.map fun f => (s.channel f.channel).capacity).sum →
    ∃ u : State,
      exec (.openDraw slot tag attrs floor ceiling target up down (fs.map fun f => (byteOf f.channel.val, byteOf f.weight))) s
        = .next (u.requestPass.answered .openDraw
            ([slot, tag, attrs] ++ bytes2 floor.toNat ++ bytes2 ceiling.toNat ++ bytes2 target.toNat
              ++ [up, down, byteOf fs.length] ++ fs.flatMap fun f => [byteOf f.channel.val, byteOf f.weight])
            [0x00, if ceiling.toNat < target.toNat then 0x01 else 0x00, slot, 0x01])
      ∧ u.record i =
        { state := .pending, tag := tag.toNat, cls := cls, rank := Fin.ofNat 8 (attrs.toNat / 8), lock := attrs.getLsbD 2,
          exempt := attrs.getLsbD 1, floor := floor.toNat, ceiling := ceiling.toNat, target := min target.toNat ceiling.toNat,
          aim := min target.toNat ceiling.toNat, upRate := up.toNat, downRate := down.toNat, feeders := fs,
          held := if s.seq.state = .normal ∨ s.seq.state = .confirming then none else some floor.toNat,
          grant := 0, present := 0, engageTimer := none, releaseTimer := none }
      ∧ (∀ j : Slot, j ≠ i → u.record j = s.record j)
      ∧ (∀ f ∈ fs, u.channel f.channel = { s.channel f.channel with owner := some i, condition := .waiting })
      ∧ (∀ c : Chan, (∀ f ∈ fs, f.channel ≠ c) → u.channel c = s.channel c)
      ∧ { u with table := s.table, channels := s.channels } = s

/-- R164: an OPEN DRAW in range makes every state check, and the reason of its refusal is the sum of those that fail: SLOT 64 for a
slot in use, TAG 32 for a tag in use, CHAN 16 for a channel off or bound or capacities below the floor, BAND 2 for a target below the
floor. Nothing but the port changes. -/
def Obligations.OpenDrawRefusedWithReasons : Prop :=
  ∀ (c : Instr) (ps : List Byte) (p : OpenParams) (s : State), sentBytes c = some (.openDraw, ps) →
    parseCmd .openDraw ps = some (.openDraw p) → s.ready → s.idle → ∀ reasons : Nat,
    reasons = (if (s.record p.slot).state = .free then 0 else 64)
      + (if ∃ j : Slot, (s.record j).state ≠ .free ∧ (s.record j).tag = p.tag then 32 else 0)
      + (if (∃ f ∈ p.feeders, (s.channel f.channel).enabled = false ∨ (s.channel f.channel).owner ≠ none)
            ∨ (p.feeders.map fun f => (s.channel f.channel).capacity).sum < p.floor then 16 else 0)
      + (if p.target < p.floor then 2 else 0) →
    reasons ≠ 0 → exec c s = .next (s.answered .openDraw ps [0x40, byteOf reasons])

/-- R7, R8, R73, R165: SET TARGET fails with the sum of SLOT 64 (FREE, RELEASING, FAULTED), LOCK 8 and BAND 2 (below the floor), or
stores the target clamped to the ceiling, moves the aim, and completes DONE with the stored target. An ACTIVE record whose present
equals the new target and differed from the old one is an ARRIVAL. -/
def Obligations.SetTargetStoresTarget : Prop :=
  ∀ (slot : Byte) (w : Word) (i : Slot) (s : State), s.ready → s.idle → slot.toNat = i.val → w.toNat ≤ 4095 →
    ∀ (r : DrawRecord) (reasons stored : Nat) (t : State), r = s.record i →
    reasons = (if r.state = .free ∨ r.state = .releasing ∨ r.state = .faulted then 64 else 0) + (if r.lock = true then 8 else 0)
      + (if w.toNat < r.floor then 2 else 0) →
    stored = min w.toNat r.ceiling →
    t = s.setRecord i { r with target := stored, aim := if r.state = .pending ∨ r.state = .shed then stored
                                                        else max r.aim stored } →
    (reasons ≠ 0 → exec (.setTarget slot w) s = .next (s.answered .setTarget (slot :: bytes2 w.toNat) [0x40, byteOf reasons]))
    ∧ (reasons = 0 → r.state = .active → r.present = stored → r.present ≠ r.target →
        exec (.setTarget slot w) s = .next ((t.occurMember srcArrival i.val).requestPass.answered .setTarget
          (slot :: bytes2 w.toNat) ([0x00, if r.ceiling < w.toNat then 0x01 else 0x00] ++ bytes2 stored)))
    ∧ (reasons = 0 → ¬(r.state = .active ∧ r.present = stored ∧ r.present ≠ r.target) →
        exec (.setTarget slot w) s = .next (t.requestPass.answered .setTarget
          (slot :: bytes2 w.toNat) ([0x00, if r.ceiling < w.toNat then 0x01 else 0x00] ++ bytes2 stored)))

/-- R3 to R5, R9, R162, R166: AMEND DRAW fails with SLOT for a FREE or RELEASING record; otherwise it writes class, rank, LOCK, EXEMPT
and the two rates and changes nothing else of the record. R12, R21, R167: RETIRE DRAW by the record's state: FREE fails with SLOT,
RELEASING with STATE; PENDING, SHED and FAULTED free the record and unbind its feeders; ACTIVE and ENGAGING become RELEASING with target
and aim at the floor, and from ENGAGING the engage timer stops and the release timer starts. -/
def Obligations.AmendDrawAndRetireDraw : Prop :=
  (∀ (slot attrs up down : Byte) (i : Slot) (cls : DrawClass) (s : State), s.ready → s.idle → slot.toNat = i.val →
      attrs.toNat / 64 = cls.code → 1 ≤ up.toNat → 1 ≤ down.toNat →
      ((s.record i).state = .free ∨ (s.record i).state = .releasing →
        exec (.amendDraw slot attrs up down) s = .next (s.answered .amendDraw [slot, attrs, up, down] [0x40, 0x40]))
      ∧ ((s.record i).state ≠ .free → (s.record i).state ≠ .releasing →
        exec (.amendDraw slot attrs up down) s =
          .next ((s.setRecord i { s.record i with cls := cls, rank := Fin.ofNat 8 (attrs.toNat / 8), lock := attrs.getLsbD 2,
                                                  exempt := attrs.getLsbD 1, upRate := up.toNat,
                                                  downRate := down.toNat }).requestPass.answered
            .amendDraw [slot, attrs, up, down] [0x00, 0x00])))
  ∧ ∀ (slot : Byte) (i : Slot) (s : State), s.ready → s.idle → slot.toNat = i.val →
      ∀ r : DrawRecord, r = s.record i →
      (r.state = .free → exec (.retireDraw slot) s = .next (s.answered .retireDraw [slot] [0x40, 0x40]))
      ∧ (r.state = .releasing → exec (.retireDraw slot) s = .next (s.answered .retireDraw [slot] [0x40, 0x04]))
      ∧ (r.state = .active →
          exec (.retireDraw slot) s =
            .next ((s.setRecord i { r with state := .releasing, target := r.floor, aim := r.floor }).requestPass.answered
              .retireDraw [slot] [0x00, 0x00, 0x04]))
      ∧ (r.state = .engaging →
          exec (.retireDraw slot) s =
            .next ((s.setRecord i { r with state := .releasing, target := r.floor, aim := r.floor, engageTimer := none,
                                           releaseTimer := some s.timing.releaseTime }).requestPass.answered
              .retireDraw [slot] [0x00, 0x00, 0x04]))
      ∧ (r.state = .pending ∨ r.state = .shed ∨ r.state = .faulted →
          ∃ u : State, exec (.retireDraw slot) s = .next (u.requestPass.answered .retireDraw [slot] [0x00, 0x00, 0x00])
            ∧ Freed s u i)

/-- R168, R169: READ DRAW reports the record at any slot in its byte layout. R170, R171: SCAN DRAWS reports the number and the slots,
ascending, of the records its condition finds. Both change nothing but the port. -/
def Obligations.ReadDrawAndScanDraws : Prop :=
  (∀ (slot : Byte) (i : Slot) (s : State), s.ready → slot.toNat = i.val → ∀ r : DrawRecord, r = s.record i →
      exec (.readDraw slot) s = .next (s.answered .readDraw [slot]
        ([0x00, 0x00, slot, byteOf r.state.code, byteOf r.tag,
          byteOf (64 * r.cls.code + 8 * r.rank.val + (if r.lock then 4 else 0) + (if r.exempt then 2 else 0))]
          ++ bytes2 r.floor ++ bytes2 r.ceiling ++ bytes2 r.target ++ bytes2 r.aim ++ [byteOf r.upRate, byteOf r.downRate]
          ++ (match r.held with | none => [0xFF, 0xFF] | some h => bytes2 h) ++ bytes2 r.grant ++ bytes2 r.present
          ++ bytes2 (min r.ceiling (r.feeders.map fun f => (s.channel f.channel).usable).sum)
          ++ bytes2 (max r.floor (r.feeders.map fun f =>
              if (s.channel f.channel).condition = .stale then (s.channel f.channel).frozen else 0).sum)
          ++ [byteOf r.feeders.length]
          ++ r.feeders.flatMap fun f => [byteOf f.channel.val, byteOf f.weight, byteOf (s.channel f.channel).condition.code]
              ++ bytes2 (s.channel f.channel).share)))
  ∧ ∀ (condition : Byte) (w : Word) (s : State), s.ready → condition.toNat ≤ 6 →
      (condition.toNat = 0 → w.toNat ≤ 6) → (condition.toNat = 2 ∨ condition.toNat = 3 → w.toNat ≤ 4095) →
      (condition.toNat = 4 → w.toNat ≤ 7) → (condition.toNat = 5 → w.toNat ≤ 2) →
      ∃ found : List Slot,
        exec (.scanDraws condition w) s = .next (s.answered .scanDraws (condition :: bytes2 w.toNat)
          ([0x00, 0x00, byteOf found.length] ++ found.map fun i => byteOf i.val))
        ∧ found.Pairwise (· < ·)
        ∧ ∀ i : Slot, i ∈ found ↔
            (condition.toNat = 0 ∧ (s.record i).state.code = w.toNat)
            ∨ (condition.toNat = 1 ∧ (s.record i).state = .active ∧ (s.record i).present < (s.record i).target)
            ∨ (condition.toNat = 2 ∧ w.toNat ≤ (s.record i).present)
            ∨ (condition.toNat = 3 ∧ (s.record i).state = .active ∧ (s.record i).present + w.toNat ≤ s.ceff i)
            ∨ (condition.toNat = 4 ∧ (s.record i).state ≠ .free ∧ (s.record i).rank.val ≤ w.toNat)
            ∨ (condition.toNat = 5 ∧ (s.record i).state ≠ .free ∧ (s.record i).cls.code = w.toNat)
            ∨ (condition.toNat = 6 ∧ (s.record i).state ≠ .free
                ∧ ∃ f ∈ (s.record i).feeders, (s.channel f.channel).condition ≠ .online)

/-! ## The plant, channels and lines (chapter 8) -/

/-- R24, R172, R173: SET CAP writes E0, changes nothing else of its own and requests a pass. READ PLANT reports the 27 bytes of the
caps, the sums over the 24 records, the breach, the publication number and the timing settings, and changes nothing but the port. -/
def Obligations.SetCapAndReadPlant : Prop :=
  (∀ (w : Word) (s : State), s.ready → s.idle →
      exec (.setCap w) s = .next (({ s with engine := { s.engine with e0 := w.toNat } } : State).requestPass.answered
        .setCap (bytes2 w.toNat) [0x00, 0x00]))
  ∧ ∀ (s : State), s.ready → ∀ presents grants : Nat,
      presents = (List.finRange 24).foldl (fun n i => n + (s.record i).present) 0 →
      grants = (List.finRange 24).foldl (fun n i => n + (s.record i).grant) 0 →
      exec .readPlant s = .next (s.answered .readPlant []
        ([0x00, 0x00] ++ bytes2 s.engine.e0 ++ bytes2 s.grid.f ++ bytes2 (s.engine.e0 * s.grid.f / 1000) ++ bytes2 s.seq.er
          ++ [if s.seq.state = .normal ∨ s.seq.state = .confirming then 0x00 else 0x01] ++ bytes2 s.engine.publishedCap
          ++ [byteOf (presents / 65536), byteOf (presents / 256), byteOf presents]
          ++ [byteOf (grants / 65536), byteOf (grants / 256), byteOf grants]
          ++ [if s.engine.breach then 0x01 else 0x00, byteOf s.engine.pubNumber]
          ++ [byteOf s.timing.stepPeriod, byteOf s.timing.staleTime, byteOf s.timing.lostTime, byteOf s.timing.engageTime,
              byteOf s.timing.releaseTime, byteOf s.timing.tolerance, byteOf s.timing.trackCount, byteOf s.timing.reentryLimit]))

/-- R125, R130, R174: SET CHANNEL fails with CHAN for a bound channel; otherwise it writes enable and configured capacity, drops a
reply pending for a channel it turns off, and requests a pass. R136, R175: REARM CHANNEL takes a TRIPPED channel to WAITING and
requests a pass; any other condition fails with STATE. -/
def Obligations.SetChannelAndRearmChannel : Prop :=
  (∀ (channel enabled : Byte) (w : Word) (c : Chan) (s : State), s.ready → s.idle → channel.toNat = c.val → enabled.toNat ≤ 1 →
      w.toNat ≤ 4095 → ∀ t : State,
      t = s.setChannel c { s.channel c with enabled := decide (enabled.toNat = 1), capacity := w.toNat } →
      ((s.channel c).owner ≠ none →
        exec (.setChannel channel enabled w) s
          = .next (s.answered .setChannel ([channel, enabled] ++ bytes2 w.toNat) [0x40, 0x10]))
      ∧ ((s.channel c).owner = none → enabled.toNat = 0 → (s.line (lineOf c)).reply = some c →
        exec (.setChannel channel enabled w) s
          = .next ((t.setLine (lineOf c) { s.line (lineOf c) with reply := none }).requestPass.answered
              .setChannel ([channel, enabled] ++ bytes2 w.toNat) [0x00, 0x00]))
      ∧ ((s.channel c).owner = none → ¬(enabled.toNat = 0 ∧ (s.line (lineOf c)).reply = some c) →
        exec (.setChannel channel enabled w) s
          = .next (t.requestPass.answered .setChannel ([channel, enabled] ++ bytes2 w.toNat) [0x00, 0x00])))
  ∧ ∀ (channel : Byte) (c : Chan) (s : State), s.ready → s.idle → channel.toNat = c.val →
      ((s.channel c).condition = .tripped →
        exec (.rearmChannel channel) s =
          .next ((s.setChannel c { s.channel c with condition := .waiting }).requestPass.answered
            .rearmChannel [channel] [0x00, 0x00]))
      ∧ ((s.channel c).condition ≠ .tripped →
        exec (.rearmChannel channel) s = .next (s.answered .rearmChannel [channel] [0x40, 0x04]))

/-- R131, R176: READ CHANNEL reports a channel's 20 bytes, among them its usable capacity and which timer runs, and changes nothing but
the port. R80, R141, R177: READ LINE reports a line's flags as they stood and clears all of them in the same event; line 8 is the
grid line. -/
def Obligations.ReadChannelAndReadLine : Prop :=
  (∀ (channel : Byte) (c : Chan) (s : State), s.ready → channel.toNat = c.val → ∀ x : Channel, x = s.channel c →
      exec (.readChannel channel) s = .next (s.answered .readChannel [channel]
        ([0x00, 0x00, channel, if x.enabled then 0x01 else 0x00] ++ bytes2 x.capacity
          ++ [byteOf x.condition.code, match x.owner with | none => 0xFF | some i => byteOf i.val]
          ++ bytes2 x.share ++ bytes2 x.frozen ++ (match x.clamp with | none => [0xFF, 0xFF] | some m => bytes2 m)
          ++ bytes2 (if x.condition = .online then min x.capacity (x.clamp.getD x.capacity)
                     else if x.condition = .stale then x.frozen else 0)
          ++ [if x.tracking then 0x01 else 0x00, byteOf x.mismatch] ++ bytes2 x.lastMeasured
          ++ [x.lastStatus, if x.staleTimer ≠ none then 0x01 else if x.lostTimer ≠ none then 0x02 else 0x00])))
  ∧ ∀ (b : Byte) (s : State), s.ready →
      (∀ l : LineNo, b.toNat = l.val →
        exec (.readLine b) s = .next ((s.setLine l { s.line l with flags := 0 }).answered
          .readLine [b] [0x00, 0x00, (s.line l).flags]))
      ∧ (b.toNat = 8 →
        exec (.readLine b) s = .next (({ s with grid := { s.grid with flags := 0 } } : State).answered
          .readLine [b] [0x00, 0x00, s.grid.flags]))

/-! ## Profiles, settings and RESUME (chapters 5 and 8) -/

/-- R93, R94, R178: LOAD PROFILE fails with STATE for the profile in use during a ride-through and for the candidate of a run;
otherwise it stores the profile, of profile 8 only the retain, hold time, restore period and restore step. Nothing else changes but
the port. -/
def Obligations.LoadProfileStoresProfile : Prop :=
  ∀ (index enabled mask polarity mode confirm : Byte) (retain : Word) (tracking hold period : Byte) (step : Word)
    (k : ProfileNo) (m : ProfileMode) (s : State), s.ready → index.toNat = k.val → enabled.toNat ≤ 1 → mode.toNat = m.code →
    1 ≤ confirm.toNat → confirm.toNat ≤ 15 → retain.toNat ≤ 1000 → tracking.toNat ≤ 1 → 1 ≤ hold.toNat → 1 ≤ period.toNat →
    1 ≤ step.toNat → step.toNat ≤ 4095 → ∀ (ps : List Byte) (busy : Prop),
    ps = [index, enabled, mask, polarity, mode, confirm] ++ bytes2 retain.toNat ++ [tracking, hold, period]
      ++ bytes2 step.toNat →
    (busy ↔ (s.seq.state ≠ .normal ∧ s.seq.state ≠ .confirming ∧ s.seq.inUse = some k)
      ∨ (s.seq.state = .confirming ∧ s.seq.candidate = some k)) →
    (busy → exec (.loadProfile index enabled mask polarity mode confirm retain tracking hold period step) s
        = .next (s.answered .loadProfile ps [0x40, 0x04]))
    ∧ (¬busy → ∃ u : State,
        exec (.loadProfile index enabled mask polarity mode confirm retain tracking hold period step) s
          = .next (u.answered .loadProfile ps [0x00, 0x00])
        ∧ (k ≠ 8 → u.profile k =
            { enabled := decide (enabled.toNat = 1), mask := mask, polarity := polarity, mode := m, confirm := confirm.toNat,
              retain := retain.toNat, tracking := decide (tracking.toNat = 1), hold := hold.toNat, period := period.toNat,
              step := step.toNat })
        ∧ (k = 8 → u.profile k = { s.profile k with retain := retain.toNat, hold := hold.toNat, period := period.toNat,
                                                    step := step.toNat })
        ∧ (∀ j : ProfileNo, j ≠ k → u.profile j = s.profile j)
        ∧ { u with seq := { u.seq with profiles := s.seq.profiles } } = s)

/-- R179: READ PROFILE reports a profile's fields in the order and encoding of LOAD PROFILE. R182: READ GRID reports, in view 0, the
Sequencer and the last valid frame, and in view 1 the settings. Both change nothing but the port. -/
def Obligations.ReadProfileAndReadGrid : Prop :=
  (∀ (index : Byte) (k : ProfileNo) (s : State), s.ready → index.toNat = k.val → ∀ p : Profile, p = s.profile k →
      exec (.readProfile index) s = .next (s.answered .readProfile [index]
        ([0x00, 0x00, if p.enabled then 0x01 else 0x00, p.mask, p.polarity, if p.mode = .any then 0x01 else 0x00, byteOf p.confirm]
          ++ bytes2 p.retain ++ [if p.tracking then 0x01 else 0x00, byteOf p.hold, byteOf p.period] ++ bytes2 p.step)))
  ∧ ∀ (view : Byte) (s : State), s.ready →
      (view.toNat = 0 → exec (.readGrid view) s = .next (s.answered .readGrid [view]
        ([0x00, 0x00, byteOf s.seq.state.code, match s.seq.inUse with | none => 0xFF | some p => byteOf p.val,
          match s.seq.candidate with | none => 0xFF | some p => byteOf p.val, byteOf s.seq.count]
          ++ bytes2 s.seq.i0 ++ bytes2 s.seq.er
          ++ [byteOf s.seq.reentries, byteOf s.timing.reentryLimit, if s.seq.resumeRequired then 0x01 else 0x00,
              if s.grid.frameSeen then 0x01 else 0x00]
          ++ bytes2 s.grid.voltage ++ bytes2 s.grid.unbalance
          ++ bytes2 (BitVec.ofInt 16 s.grid.deviation).toNat
          ++ [byteOf s.grid.sequence, if s.grid.pj then 0x01 else 0x00, s.grid.conditions])))
      ∧ (view.toNat = 1 → ∀ g : GridSettings, g = s.grid.settings →
        exec (.readGrid view) s = .next (s.answered .readGrid [view]
          ([0x00, 0x00] ++ bytes2 g.level1 ++ bytes2 g.level2 ++ bytes2 g.level3 ++ bytes2 g.high ++ bytes2 g.uf
            ++ bytes2 g.overFreq ++ bytes2 g.ub ++ [byteOf g.db, byteOf g.k] ++ bytes2 g.fmin ++ [byteOf g.silence])))

/-- R87, R180: CONFIGURE GRID replaces all eleven settings of Grid Intake and recomputes nothing; nothing else changes but the
port. R52, R108, R142, R181: CONFIGURE TIMING writes all eight settings in one event, lowers mismatch counts above the new tracking
count and a re-entry count above the new limit, and sets resume-required where the count then equals the limit. No running timer
changes. -/
def Obligations.ConfigureCommandsWriteSettings : Prop :=
  (∀ (l1 l2 l3 high uf overFreq ub : Word) (db k : Byte) (fmin : Word) (silence : Byte) (s : State), s.ready →
      l1.toNat ≤ 1999 → l2.toNat ≤ 1999 → l3.toNat ≤ 1999 → high.toNat ≤ 1999 → uf.toNat ≤ 999 → overFreq.toNat ≤ 999 →
      ub.toNat ≤ 1000 → fmin.toNat ≤ 1000 → 1 ≤ silence.toNat →
      exec (.configureGrid l1 l2 l3 high uf overFreq ub db k fmin silence) s =
        .next (({ s with grid := { s.grid with settings :=
            { level1 := l1.toNat, level2 := l2.toNat, level3 := l3.toNat, high := high.toNat, uf := uf.toNat,
              overFreq := overFreq.toNat, ub := ub.toNat, db := db.toNat, k := k.toNat, fmin := fmin.toNat,
              silence := silence.toNat } } } : State).answered .configureGrid
          (bytes2 l1.toNat ++ bytes2 l2.toNat ++ bytes2 l3.toNat ++ bytes2 high.toNat ++ bytes2 uf.toNat ++ bytes2 overFreq.toNat
            ++ bytes2 ub.toNat ++ [db, k] ++ bytes2 fmin.toNat ++ [silence]) [0x00, 0x00]))
  ∧ ∀ (step stale lost engage release tolerance track limit : Byte) (s : State), s.ready → 1 ≤ step.toNat → 2 ≤ stale.toNat →
      1 ≤ lost.toNat → 1 ≤ engage.toNat → 1 ≤ release.toNat → 1 ≤ track.toNat → track.toNat ≤ 15 → 1 ≤ limit.toNat →
      limit.toNat ≤ 15 →
      ∃ u : State,
        exec (.configureTiming step stale lost engage release tolerance track limit) s
          = .next (u.answered .configureTiming [step, stale, lost, engage, release, tolerance, track, limit] [0x00, 0x00])
        ∧ (∀ c : Chan, u.channel c = { s.channel c with mismatch := min (s.channel c).mismatch track.toNat })
        ∧ { u with channels := s.channels } =
          { s with
            timing := { stepPeriod := step.toNat, staleTime := stale.toNat, lostTime := lost.toNat, engageTime := engage.toNat,
                        releaseTime := release.toNat, tolerance := tolerance.toNat, trackCount := track.toNat,
                        reentryLimit := limit.toNat },
            seq := { s.seq with reentries := min s.seq.reentries limit.toNat,
                                resumeRequired := s.seq.resumeRequired || decide (limit.toNat ≤ s.seq.reentries) } }

/-- R109, R183: RESUME takes LATCHED to RESTORING with the re-entry count 0, resume-required clear and the restore timer started, and
requests a pass, whether or not one is in flight; in any other state it fails with STATE. -/
def Obligations.ResumeLeavesLatched : Prop :=
  ∀ s : State, s.ready →
    (∀ p : ProfileNo, s.seq.state = .latched → s.seq.inUse = some p →
      exec .resume s = .next (({ s with seq := { s.seq with state := .restoring, resumeRequired := false, reentries := 0,
                                                             holdTimer := none,
                                                             restoreTimer := some (s.profile p).period } } : State).requestPass.answered
        .resume [] [0x00, 0x00]))
    ∧ (s.seq.state ≠ .latched → exec .resume s = .next (s.answered .resume [] [0x40, 0x04]))

/-! ## Attention and fault banks (chapter 9) -/

/-- R184, R189: SENSE ATTENTION takes the qualifying source of highest priority: its IUS sets, and of a source with a member set the
lowest member is removed and reported and IP stays set only while members are left; of RIDE, LATCH and CLEAR IP clears and 0xFF is
reported. Where none qualifies the result is 0xFF, 0xFF and nothing changes but the port. -/
def Obligations.SenseAttentionTakesHighest : Prop :=
  ∀ s : State, s.ready →
    ((∀ n : SourceNo, (s.source n).ip = true → (s.source n).ie = true → ∃ m : SourceNo, m ≤ n ∧ (s.source m).ius = true) →
      exec .senseAttention s = .next (s.answered .senseAttention [] [0x00, 0x00, 0xFF, 0xFF]))
    ∧ ∀ n : SourceNo, (s.source n).ip = true → (s.source n).ie = true → (∀ m : SourceNo, m ≤ n → (s.source m).ius = false) →
      (∀ m : SourceNo, m < n → ¬((s.source m).ip = true ∧ (s.source m).ie = true)) →
      (∀ (x : Nat) (xs : List Nat), n = 1 ∨ n = 2 ∨ n = 4 ∨ n = 6 ∨ n = 7 → (s.source n).members = x :: xs →
        exec .senseAttention s =
          .next ((s.setSource n { s.source n with ius := true, ip := decide (xs ≠ []), members := xs }).answered
            .senseAttention [] [0x00, 0x00, byteOf n.val, byteOf x]))
      ∧ (n = 0 ∨ n = 3 ∨ n = 5 →
        exec .senseAttention s =
          .next ((s.setSource n { s.source n with ius := true, ip := false }).answered
            .senseAttention [] [0x00, 0x00, byteOf n.val, 0xFF]))

/-- R190: END SERVICE clears the IUS of the source it names and nothing else: no IE, no IP, no member set, no other service. It
completes DONE whether or not the source was in service; for one not in service nothing changes. A source whose IP is still set
qualifies again where its IE is set and no source of equal or higher priority is in service, and ATTN is asserted in the same
event. -/
def Obligations.EndServiceClearsService : Prop :=
  ∀ (b : Byte) (n : SourceNo) (s : State), s.ready → b.toNat = n.val →
    ∃ t : State, exec (.endService b) s = .next t
      ∧ t = (s.setSource n { s.source n with ius := false }).answered .endService [b] [0x00, 0x00]
      ∧ (∀ m : SourceNo, m ≠ n → t.source m = s.source m)
      ∧ ((s.source n).ius = false → t = s.answered .endService [b] [0x00, 0x00])
      ∧ ((s.source n).ip = true → (s.source n).ie = true → (∀ m : SourceNo, m < n → (s.source m).ius = false) →
          t.attn = true)

/-- R191: SET ATTENTION MASK writes the IE of all eight sources, bit n being that of source n, and changes no IP, IUS or member set; an
enable that makes a source qualify asserts ATTN in the same event, and a mask that disables every pending source deasserts it. -/
def Obligations.AttentionMaskWritesEnables : Prop :=
  ∀ (mask : Byte) (s : State), s.ready →
    ∃ u : State, exec (.setAttentionMask mask) s = .next (u.answered .setAttentionMask [mask] [0x00, 0x00])
      ∧ (∀ n : SourceNo, u.source n = { s.source n with ie := mask.getLsbD n.val })
      ∧ { u with attention := s.attention } = s
      ∧ (∀ n : SourceNo, mask.getLsbD n.val = true → (s.source n).ip = true →
          (∀ m : SourceNo, m ≤ n → (s.source m).ius = false) → u.attn = true)
      ∧ ((∀ n : SourceNo, (s.source n).ip = true → mask.getLsbD n.val = false) → u.attn = false)

/-- R185, R200: READ FAULT BANK reports the six fields of a bank and changes nothing but the port; CLEAR FAULT BANK empties the one bank
and changes nothing else. -/
def Obligations.FaultBankReadAndClear : Prop :=
  ∀ (b : Byte) (n : BankNo) (s : State), s.ready → b.toNat = n.val →
    exec (.readFaultBank b) s = .next (s.answered .readFaultBank [b]
      [0x00, 0x00, if (s.bank n).valid then 0x01 else 0x00, if (s.bank n).overflow then 0x01 else 0x00,
       byteOf (s.bank n).severity.code, byteOf (s.bank n).code, byteOf (s.bank n).index, byteOf (s.bank n).seqState.code])
    ∧ exec (.clearFaultBank b) s =
        .next ((s.setBank n { valid := false, overflow := false, severity := .none, code := 0, index := 0,
                              seqState := .normal }).answered .clearFaultBank [b] [0x00, 0x00])

/-- R186, R187, R192: an occurrence of a source with a member set adds its member, once, and sets IP, whatever the IE and IUS of the
source; one of RIDE, LATCH or CLEAR sets IP alone. It changes nothing else, and reaches the pin where the source is enabled and no
source of equal or higher priority is in service. -/
def Obligations.OccurrencesAreKept : Prop :=
  ∀ (s : State) (n : SourceNo) (m : Nat), (s.source n).members.Pairwise (· < ·) →
    ∃ xs : List Nat, s.occurMember n m = s.setSource n { s.source n with ip := true, members := xs }
      ∧ xs.Pairwise (· < ·) ∧ (∀ x : Nat, x ∈ xs ↔ x ∈ (s.source n).members ∨ x = m)
      ∧ (m ∈ (s.source n).members → xs = (s.source n).members)
      ∧ s.occur n = s.setSource n { s.source n with ip := true }
      ∧ (s.up → (s.source n).ie = true → (∀ k : SourceNo, k ≤ n → (s.source k).ius = false) →
          (s.occurMember n m).attn = true ∧ (s.occur n).attn = true)

/-- R195 to R197: a capture that reaches an empty bank fills it: valid sets, overflow stays clear, and the severity, code, index and
Sequencer state of the capture are written. One that reaches a valid bank replaces its contents where it is more severe, and otherwise
leaves them; overflow is set after it. It raises one FAULT occurrence, with the bank as member, exactly where it fills the bank, raises
its severity or takes overflow from clear to set, and changes nothing else. The state a capture records is the one that stands at it,
unless the event names another (R198). Section 9.3, R185: the bank, the code and the severity (1 NOTICE, 2 DEGRADED, 3 BREACH) of each
fault. -/
def Obligations.CapturesReachBanks : Prop :=
  (∀ (s : State) (x : FaultName) (index : Nat) (st : SeqState),
      ((s.bank x.bank).valid = false →
        s.captureAs x index st =
          (s.setBank x.bank { valid := true, overflow := false, severity := x.severity, code := x.code, index := index,
                              seqState := st }).occurMember srcFault x.bank.val)
      ∧ s.capture x index = s.captureAs x index s.seq.state)
  ∧ (∀ (s : State) (x : FaultName) (index : Nat) (st : SeqState) (b : FaultBank), b = s.bank x.bank → b.valid = true →
      (b.severity.code < x.severity.code →
        s.captureAs x index st =
          (s.setBank x.bank { valid := true, overflow := true, severity := x.severity, code := x.code, index := index,
                              seqState := st }).occurMember srcFault x.bank.val)
      ∧ (x.severity.code ≤ b.severity.code → b.overflow = false →
        s.captureAs x index st = (s.setBank x.bank { b with overflow := true }).occurMember srcFault x.bank.val)
      ∧ (x.severity.code ≤ b.severity.code → b.overflow = true → s.captureAs x index st = s))
  ∧ ∀ x : FaultName, (x.bank.val, x.code, x.severity.code) =
      match x with
      | .capBreach => (0, 1, 3)
      | .dropout => (0, 2, 2)
      | .capacity => (1, 1, 2)
      | .engageFail => (1, 2, 2)
      | .frameError => (2, 1, 1)
      | .silence => (2, 2, 2)
      | .latched => (2, 3, 2)
      | .lineError => (3, 1, 1)
      | .tracking => (3, 2, 1)
      | .tripped => (3, 3, 2)
      | .lost => (3, 4, 2)

/-! ## The Allocation Engine (chapter 2) -/

/-- R25, R26, R44, R45, R50: a pass request begins a pass where the Engine is idle and sets the rerun flag otherwise; an urgent one
begins a pass at once, from a pass in flight or a window too, with the rerun flag clear (in a window that is the model's reading, log
entry 6). A pass that begins takes its snapshot then, from the state as it stands, and clears the rerun flag; nothing else changes. -/
def Obligations.RequestsBeginPasses : Prop :=
  ∀ s : State,
    (s.engine.pass = .idle →
      s.requestPass = { s with engine := { s.engine with pass := .running s.snapshot, rerun := false } })
    ∧ (s.engine.pass ≠ .idle → s.requestPass = { s with engine := { s.engine with rerun := true } })
    ∧ s.apply .none = s ∧ s.apply .ordinary = s.requestPass
    ∧ s.apply .urgent = { s with engine := { s.engine with pass := .running s.snapshot, rerun := false } }
    ∧ s.snapshot.seqState = s.seq.state
    ∧ s.snapshot.cap = (if s.seq.state = .normal ∨ s.seq.state = .confirming then s.engine.e0 * s.grid.f / 1000
        else min (s.engine.e0 * s.grid.f / 1000) s.seq.er)
    ∧ ∀ (i : Slot) (r : DrawRecord), r = s.record i →
      s.snapshot.record i =
        { state := r.state, cls := r.cls, rank := r.rank, exempt := r.exempt, floor := r.floor, aim := r.aim, held := r.held,
          floorEff := max r.floor (r.feeders.map fun f =>
            if (s.channel f.channel).condition = .stale then (s.channel f.channel).frozen else 0).sum,
          ceff := min r.ceiling (r.feeders.map fun f => (s.channel f.channel).usable).sum, present := r.present,
          online := (r.feeders.map fun f =>
            if (s.channel f.channel).condition = .online then (s.channel f.channel).usable else 0).sum }

/-- R29, R30, R31: the drop order runs from rank 7 to rank 0, ENGAGING before ACTIVE within a rank and the higher slot first within
both, over the ENGAGING and ACTIVE records that are not EXEMPT. A pass drops a first part of it, no longer than it takes to bring the
floor sum to the cap. Where all of it does not, the pass is in breach, and the slot its capture names is the lowest EXEMPT survivor,
or, where there is none, the lowest RELEASING slot with present above 0. -/
def Obligations.DropsFollowTheDropOrder : Prop :=
  ∀ n : Snapshot, ∀ floors : List Slot → Nat,
    (∀ is : List Slot, floors is = (is.map fun i => (n.record i).floorValue).sum) →
    (∀ i : Slot, i ∈ n.dropOrder ↔
      ((n.record i).state = .engaging ∨ (n.record i).state = .active) ∧ (n.record i).exempt = false)
    ∧ n.dropOrder.Pairwise (fun i j => (n.record j).rank < (n.record i).rank
        ∨ ((n.record i).rank = (n.record j).rank ∧ (n.record i).state = .engaging ∧ (n.record j).state = .active)
        ∨ ((n.record i).rank = (n.record j).rank ∧ (n.record i).state = (n.record j).state ∧ j < i))
    ∧ n.dropped = n.dropOrder.take n.dropped.length
    ∧ (∀ k : Nat, k < n.dropped.length → n.cap + floors (n.dropOrder.take k) < floors slots)
    ∧ (n.dropped.length < n.dropOrder.length → floors slots ≤ n.cap + floors n.dropped)
    ∧ (n.breach = true ↔ n.cap + floors n.dropped < floors slots)
    ∧ ∀ exempt : Slot → Prop,
      (∀ i : Slot, exempt i ↔ ((n.record i).state = .active ∨ (n.record i).state = .engaging) ∧ (n.record i).exempt = true) →
      (∀ i : Slot, exempt i → (∀ j : Slot, j < i → ¬exempt j) → n.breachIndex = i.val)
      ∧ ((∀ i : Slot, ¬exempt i) → n.breach = true → ∀ i : Slot, (n.record i).state = .releasing → 0 < (n.record i).present →
          (∀ j : Slot, j < i → ¬((n.record j).state = .releasing ∧ 0 < (n.record j).present)) → n.breachIndex = i.val)

/-- R27, R31, R33 to R37, R41: what a pass grants. A surviving record is granted between its floor value and its demand: its floor
value in a breach, its demand where the demands fit under the cap. A record of class A gives nothing while one of class B or C has room
left, nor one of class B while one of class C has. Where the excess that reaches a class is less than its room, each of its records
gives its part of the excess by room, rounded toward zero, and the first of those with room in ascending slot one unit more each until
the leftover is used up. An admitted record is granted its floor, every other record 0. -/
def Obligations.GrantsFollowClasses : Prop :=
  ∀ (n : Snapshot) (i : Slot), ∀ demands : Nat, demands = (n.survivors.map fun j => (n.record j).demand).sum →
    (i ∈ n.survivors ↔ ((n.record i).state = .active ∨ (n.record i).state = .engaging ∨ (n.record i).state = .releasing)
      ∧ i ∉ n.dropped)
    ∧ (i ∈ n.survivors → (n.record i).floorValue ≤ n.grant i ∧ n.grant i ≤ (n.record i).demand)
    ∧ (i ∈ n.survivors → n.breach = true → n.grant i = (n.record i).floorValue)
    ∧ (i ∈ n.survivors → n.breach = false → demands ≤ n.cap → n.grant i = (n.record i).demand)
    ∧ (i ∈ n.survivors → n.breach = false → n.grant i < (n.record i).demand →
        ∀ j ∈ n.survivors, (n.record i).cls.code < (n.record j).cls.code → n.grant j = (n.record j).floorValue)
    ∧ (i ∈ n.admitted → n.grant i = (n.record i).floor)
    ∧ (i ∉ n.survivors → i ∉ n.admitted → n.grant i = 0)
    ∧ n.survivors.Pairwise (· < ·)
    ∧ ∀ (room : Slot → Nat) (members before after : List Slot) (later total excess : Nat),
      (∀ j : Slot, room j = (n.record j).demand - (n.record j).floorValue) →
      later = ((n.survivors.filter fun j => decide ((n.record i).cls.code < (n.record j).cls.code)).map room).sum →
      members = n.survivors.filter (fun j => decide ((n.record j).cls = (n.record i).cls ∧ 0 < room j)) →
      total = (members.map room).sum → n.breach = false → demands = n.cap + later + excess → excess < total →
      members = before ++ i :: after →
      n.grant i = (n.record i).demand
        - (excess * room i / total
            + if before.length < excess - (members.map fun j => excess * room j / total).sum then 1 else 0)

/-- R31, R33, R35, R36, R41: the grants of a pass that does not end in breach sum to no more than the cap, and to exactly the cap
where the demands exceed it; those of a pass in breach sum to the floors that are left, which exceed the cap. -/
def Obligations.GrantsKeepWithinCap : Prop :=
  ∀ (n : Snapshot) (total demands : Nat), total = (slots.map n.grant).sum →
    demands = (n.survivors.map fun j => (n.record j).demand).sum →
    (n.breach = false → total ≤ n.cap)
    ∧ (n.breach = false → n.cap < demands → total = n.cap)
    ∧ (n.breach = true → total = (n.survivors.map fun j => (n.record j).floorValue).sum ∧ n.cap < total)

/-- R36, R37: re-admission, in NORMAL or RESTORING, without a breach and with the demands met, goes through the PENDING and SHED
records in ascending rank and within a rank in ascending slot, and admits each whose floor fits under the cap beside the demands and
the floors admitted before it and under the usable capacity of its ONLINE feeders. Otherwise nothing is admitted. -/
def Obligations.ReadmissionTakesCandidates : Prop :=
  ∀ (n : Snapshot) (demands : Nat), demands = (n.survivors.map fun j => (n.record j).demand).sum →
    (∀ i : Slot, i ∈ n.candidates ↔ (n.record i).state = .pending ∨ (n.record i).state = .shed)
    ∧ n.candidates.Pairwise (fun i j => (n.record i).rank < (n.record j).rank ∨ ((n.record i).rank = (n.record j).rank ∧ i < j))
    ∧ (¬((n.seqState = .normal ∨ n.seqState = .restoring) ∧ n.breach = false ∧ demands ≤ n.cap) → n.admitted = [])
    ∧ ((n.seqState = .normal ∨ n.seqState = .restoring) → n.breach = false → demands ≤ n.cap →
        n.admitted.Sublist n.candidates
        ∧ ∀ (before : List Slot) (i : Slot) (after : List Slot), n.candidates = before ++ i :: after →
          (i ∈ n.admitted ↔ (n.record i).floor ≤ (n.record i).online
            ∧ demands + ((before.filter fun j => decide (j ∈ n.admitted)).map fun j => (n.record j).floor).sum
                + (n.record i).floor ≤ n.cap))

/-- R38, R42, R43: a publication writes the grants (0 for a record FREE by then), the published cap, the publication number, which goes
from 255 to 0, and the breach indication, and opens the window, which has to take a command waiting now. It changes no setting, no
Sequencer, grid, line or port item, and no attention source but FAULT, DROP and ARRIVAL. With no pass running nothing happens (the
model's choice, log entry 4). -/
def Obligations.PublicationWritesResults : Prop :=
  ∀ s : State, s.up →
    ((∀ n, s.engine.pass ≠ .running n) → exec (.publication .opened) s = .next s)
    ∧ ∀ n, s.engine.pass = .running n → ∃ t : State, exec (.publication .opened) s = .next t
      ∧ (∀ i : Slot, (t.record i).grant = if (s.record i).state = .free then 0 else n.grant i)
      ∧ t.engine.e0 = s.engine.e0 ∧ t.engine.publishedCap = n.cap ∧ t.engine.pubNumber = (s.engine.pubNumber + 1) % 256
      ∧ t.engine.breach = n.breach ∧ t.engine.pass = .window (decide (s.port.waiting ≠ none))
      ∧ (s.engine.rerun = true → t.engine.rerun = true)
      ∧ (∀ m : SourceNo, m ≠ srcFault → m ≠ srcDrop → m ≠ srcArrival → t.source m = s.source m)
      ∧ (∀ b : BankNo, b ≠ 0 → t.bank b = s.bank b)
      ∧ { t with table := s.table, channels := s.channels, engine := s.engine, attention := s.attention, banks := s.banks } = s

/-- R18, R20, R40, R58, R60: what a publication does to each record. A record dropped that is still ENGAGING or ACTIVE becomes SHED
with present 0 and aim at its target; one admitted that is still PENDING or SHED becomes ENGAGING and its engage timer starts; the
present of an ACTIVE record above its grant is cut to it; in RIDING and BLIND the present of a RELEASING record goes to 0 and its
release timer starts; every other record gets its grant alone. Each drop that takes effect is a DROP occurrence, and bank 0 takes one
DROPOUT with the first of them, then CAP_BREACH where the breach indication sets. R192, R197: FAULT is raised for bank 0 exactly where
that changes it. -/
def Obligations.PublicationMovesRecords : Prop :=
  ∀ (s t : State) (n : Snapshot), s.up → s.engine.pass = .running n → exec (.publication .opened) s = .next t →
    ∀ gone : Slot → Bool,
    (∀ i : Slot, gone i = decide (i ∈ n.dropped ∧ ((s.record i).state = .engaging ∨ (s.record i).state = .active))) →
    (∀ (i : Slot) (r : DrawRecord) (g : Nat), r = s.record i → g = (if r.state = .free then 0 else n.grant i) →
      t.record i =
        if gone i = true then { r with state := .shed, grant := g, present := 0, engageTimer := none, aim := r.target }
        else if i ∈ n.admitted ∧ (r.state = .pending ∨ r.state = .shed) then
          { r with state := .engaging, grant := g, present := 0, engageTimer := some s.timing.engageTime }
        else if r.state = .active then { r with grant := g, present := min r.present g }
        else if r.state = .releasing ∧ 0 < r.present ∧ (s.seq.state = .riding ∨ s.seq.state = .blind) then
          { r with grant := g, present := 0, releaseTimer := some s.timing.releaseTime }
        else { r with grant := g })
    ∧ Raises s t srcDrop (fun m => ∃ i : Slot, i.val = m ∧ gone i = true)
    ∧ Raises s t srcFault (fun m => m = 0 ∧ t.bank 0 ≠ s.bank 0)
    ∧ ∀ b : FaultBank,
      b = (match n.dropped.filter gone with
        | i :: _ => (s.bank 0).take .dropout i.val s.seq.state
        | [] => s.bank 0) →
      t.bank 0 = if n.breach = true ∧ s.engine.breach = false then b.take .capBreach n.breachIndex s.seq.state else b

/-- R20, R58 to R62, R73: what a publication does to the channels, and what it asks for. The shares and frozen shares of a record
dropped, and of one released in RIDING or BLIND, become 0. A record cut to its grant is split anew; where its grant is below its frozen
shares, the shares of its other feeders become 0 and the frozen shares are lowered from the last STALE feeder toward the first until
they sum to the grant. No other channel changes. The rerun flag sets where frozen shares are lowered or a RELEASING present is brought
to 0. A cut that reaches the target is an ARRIVAL. -/
def Obligations.PublicationMovesChannels : Prop :=
  ∀ (s t : State) (n : Snapshot), s.up → FeederLaw s → (∀ i : Slot, ((s.record i).feeders.map fun f => f.channel).Nodup) →
    s.engine.pass = .running n → exec (.publication .opened) s = .next t →
    ∀ gone cut leaving : Slot → Prop,
    (∀ i : Slot, gone i ↔ i ∈ n.dropped ∧ ((s.record i).state = .engaging ∨ (s.record i).state = .active)) →
    (∀ i : Slot, cut i ↔ ¬gone i ∧ (s.record i).state = .active ∧ n.grant i < (s.record i).present) →
    (∀ i : Slot, leaving i ↔ (s.record i).state = .releasing ∧ 0 < (s.record i).present
      ∧ (s.seq.state = .riding ∨ s.seq.state = .blind)) →
    (∀ i : Slot, gone i ∨ leaving i → ∀ f ∈ (s.record i).feeders,
      t.channel f.channel = { s.channel f.channel with share := 0, frozen := 0 })
    ∧ (∀ i : Slot, cut i → s.frozenSum i ≤ n.grant i → ∀ f ∈ (s.record i).feeders,
      t.channel f.channel = ((s.setRecord i { s.record i with present := n.grant i }).reSplit i).channel f.channel)
    ∧ (∀ (i : Slot) (before after : List Feeder) (f : Feeder), cut i → n.grant i < s.frozenSum i →
      (s.record i).feeders = before ++ f :: after →
      ((s.channel f.channel).condition ≠ .stale → t.channel f.channel = { s.channel f.channel with share := 0 })
      ∧ ((s.channel f.channel).condition = .stale → ∀ kept : Nat,
          kept = min (s.channel f.channel).frozen (n.grant i - s.feederSum before Channel.frozenShare) →
          t.channel f.channel = { s.channel f.channel with share := kept, frozen := kept }))
    ∧ (∀ c : Chan, (∀ i : Slot, gone i ∨ cut i ∨ leaving i → ∀ f ∈ (s.record i).feeders, f.channel ≠ c) →
      t.channel c = s.channel c)
    ∧ (t.engine.rerun = true ↔
      s.engine.rerun = true ∨ (∃ i : Slot, cut i ∧ n.grant i < s.frozenSum i) ∨ ∃ i : Slot, leaving i)
    ∧ Raises s t srcArrival (fun m => ∃ i : Slot, i.val = m ∧ cut i ∧ n.grant i = (s.record i).target)

/-- R47, R54: the parts of a publication window: the waiting command is taken once, as any command is; a deferred step expiry is taken
as one taken at once is; and at the end a new pass begins where the rerun flag is set, and the Engine is idle otherwise, taking a
command that began to wait during the window. A publication with its whole window is the publication, then the stated number of the
deferred expiries (all, where there are fewer), the command, the expiries that are left, and the end of the window; from a running pass
it leaves nothing deferred and nothing waiting. That a window is taken whole or in parts as the operand says, that a part with nothing
to take, or with no window open, changes nothing, and that a window leaves a command begun within it to its end, are the model's (log
entries 5, 4 and 25). -/
def Obligations.WindowTakesWhatWaited : Prop :=
  ∀ s : State, s.up →
    (∀ (c : Cmd) (u : State) (result : List Byte), perform c s = (u, result) →
      s.takeCmd c = { u with port := { u.port with phase := .result, waiting := none, result := result, readPos := 0 } })
    ∧ (∀ c : Cmd, s.engine.pass = .window true → s.port.waiting = some c →
      exec (.publication .takeCommand) s = .next (({ s with engine := { s.engine with pass := .window false } } : State).takeCmd c))
    ∧ (s.engine.pass ≠ .window true ∨ s.port.waiting = none → exec (.publication .takeCommand) s = .next s)
    ∧ (∀ (due : Bool) (d : Nat), s.engine.pass = .window due → s.ramp.deferred = d + 1 →
      exec (.publication .takeExpiry) s = .next ({ s with ramp := { s.ramp with deferred := d } } : State).takeStep)
    ∧ ((∀ due : Bool, s.engine.pass ≠ .window due) ∨ s.ramp.deferred = 0 → exec (.publication .takeExpiry) s = .next s)
    ∧ (∀ k : Nat, s.idle → exec (.publication (.whole k)) s = .next s)
    ∧ (∀ (k d : Nat) (parts : List WindowPart), s.ramp.deferred = d →
      parts = [.opened] ++ List.replicate (min k d) .takeExpiry ++ [.takeCommand] ++ List.replicate (d - min k d) .takeExpiry
        ++ [.whole 0] →
      exec (.publication (.whole k)) s =
        parts.foldl (fun out part => match out with
          | .next u => exec (.publication part) u
          | out => out) (.next s))
    ∧ (∀ (due : Bool) (k : Nat), s.engine.pass = .window due → (due = false ∨ s.port.waiting = none) → s.ramp.deferred = 0 →
      (s.engine.rerun = true →
        exec (.publication (.whole k)) s =
          .next { s with engine := { s.engine with pass := .running s.snapshot, rerun := false } })
      ∧ (s.engine.rerun = false → s.port.waiting = none →
        exec (.publication (.whole k)) s = .next { s with engine := { s.engine with pass := .idle } })
      ∧ ∀ c : Cmd, s.engine.rerun = false → s.port.waiting = some c →
        exec (.publication (.whole k)) s = .next (({ s with engine := { s.engine with pass := .idle } } : State).takeCmd c))
    ∧ ∀ (n : Snapshot) (k : Nat), s.engine.pass = .running n →
      ∃ t : State, exec (.publication (.whole k)) s = .next t ∧ t.ramp.deferred = 0 ∧ t.engine.rerun = false
        ∧ t.port.waiting = none ∧ (t.engine.pass = .idle ∨ t.engine.pass = .running t.snapshot)

/-! ## The Ramp Unit (chapter 3) -/

/-- R53 to R57, R73: a step expiry starts the next period with the length last configured. With a pass in flight its work is deferred.
Otherwise the aim of an ENGAGING or ACTIVE record falls toward its target by the down rate; the present of an ACTIVE record below the
least of its grant and effective ceiling rises toward that by the up rate; the present of a RELEASING record falls to its release
bound by the down rate, and from there to 0, where its release timer starts; a present that reaches the target of an ACTIVE record is
an ARRIVAL; and a pass is requested once where an aim falls or a RELEASING present is not 0. The shares of a record whose present moves
are split anew, or become 0 with it, and no other channel changes. That a stopped timer does not expire, and that the requests of one
expiry reach the Engine as one, are the model's (log entries 4 and 3). -/
def Obligations.StepExpiryMovesRecords : Prop :=
  ∀ s : State, s.up →
    (s.ramp.stepTimer = none → exec .stepTimerExpiry s = .next s)
    ∧ (s.ramp.stepTimer ≠ none → s.engine.pass ≠ .idle →
      exec .stepTimerExpiry s =
        .next { s with ramp := { stepTimer := some s.timing.stepPeriod, deferred := s.ramp.deferred + 1 } })
    ∧ (s.ramp.stepTimer ≠ none → s.idle → FeederLaw s → ∀ aim : Slot → Nat,
      (∀ (i : Slot) (r : DrawRecord), r = s.record i →
        aim i = if (r.state = .engaging ∨ r.state = .active) ∧ r.target < r.aim then max r.target (r.aim - r.downRate)
                else r.aim) →
      ∃ t : State, exec .stepTimerExpiry s = .next t
        ∧ (∀ (i : Slot) (r : DrawRecord) (limit bound : Nat), r = s.record i → limit = min r.grant (s.ceff i) →
          bound = max r.floor (s.frozenSum i) →
          t.record i =
            if r.state = .active then
              { r with aim := aim i, present := if r.present < limit then min (r.present + r.upRate) limit else r.present }
            else if r.state = .releasing ∧ r.present ≠ 0 then
              if bound < r.present then { r with present := max (r.present - r.downRate) bound }
              else { r with present := 0, releaseTimer := some s.timing.releaseTime }
            else { r with aim := aim i })
        ∧ Raises s t srcArrival (fun m => ∃ i : Slot, i.val = m ∧ (s.record i).state = .active
            ∧ (s.record i).present ≠ (s.record i).target ∧ (t.record i).present = (s.record i).target)
        ∧ ((∃ i : Slot, aim i ≠ (s.record i).aim ∨ ((s.record i).state = .releasing ∧ (s.record i).present ≠ 0)) →
          t.engine = { s.engine with pass := .running t.snapshot, rerun := false })
        ∧ ((∀ i : Slot, aim i = (s.record i).aim ∧ ((s.record i).state = .releasing → (s.record i).present = 0)) →
          t.engine = s.engine)
        ∧ ((∀ i : Slot, ((s.record i).feeders.map fun f => f.channel).Nodup) → ∀ moved ended : Slot → Prop,
          (∀ i : Slot, ended i ↔ (s.record i).state = .releasing ∧ (s.record i).present ≠ 0
            ∧ (s.record i).present ≤ max (s.record i).floor (s.frozenSum i)) →
          (∀ i : Slot, moved i ↔ ((s.record i).state = .active ∧ (s.record i).present < min (s.record i).grant (s.ceff i))
            ∨ ((s.record i).state = .releasing ∧ (s.record i).present ≠ 0 ∧ ¬ended i)) →
          (∀ i : Slot, moved i → ∀ f ∈ (s.record i).feeders, t.channel f.channel =
            ((s.setRecord i { s.record i with present := (t.record i).present }).reSplit i).channel f.channel)
          ∧ (∀ i : Slot, ended i → ∀ f ∈ (s.record i).feeders,
            t.channel f.channel = { s.channel f.channel with share := 0, frozen := 0 })
          ∧ ∀ c : Chan, (∀ i : Slot, moved i ∨ ended i → ∀ f ∈ (s.record i).feeders, f.channel ≠ c) →
            t.channel c = s.channel c)
        ∧ (∀ m : SourceNo, m ≠ srcArrival → t.source m = s.source m)
        ∧ t.ramp = { stepTimer := some s.timing.stepPeriod, deferred := s.ramp.deferred }
        ∧ { t with table := s.table, channels := s.channels, engine := s.engine, attention := s.attention, ramp := s.ramp } = s)

/-- R19, R20, R70, R71: when the engage timer of an ENGAGING record expires it becomes ACTIVE with its floor as present where its ONLINE
feeders can carry the floor, which is an ARRIVAL; and FAULTED otherwise, with its shares 0, an ENGAGE_FAIL capture and a DROP. R22,
R12: when the release timer of a RELEASING record expires the record becomes FREE and its feeders are unbound. Each raises a pass
request. A timer that does not run does not expire (the model's choice, log entry 4). -/
def Obligations.EngageAndReleaseTimersExpire : Prop :=
  ∀ (i : Slot) (s : State), s.up → ∀ (r : DrawRecord) (online : Nat), r = s.record i →
    online = (r.feeders.map fun f => if (s.channel f.channel).condition = .online then (s.channel f.channel).usable else 0).sum →
    (¬(r.state = .engaging ∧ r.engageTimer ≠ none) → exec (.engageTimerExpiry i) s = .next s)
    ∧ (r.state = .engaging → r.engageTimer ≠ none → r.floor ≤ online →
      ∃ u : State, exec (.engageTimerExpiry i) s = .next u.requestPass
        ∧ u.table = (s.setRecord i { r with state := .active, present := r.floor, engageTimer := none }).table
        ∧ u.channels =
          ((s.setRecord i { r with state := .active, present := r.floor, engageTimer := none }).reSplit i).channels
        ∧ u.attention = (s.occurMember srcArrival i.val).attention
        ∧ { u with table := s.table, channels := s.channels, attention := s.attention } = s)
    ∧ (r.state = .engaging → r.engageTimer ≠ none → online < r.floor →
      ∃ u : State, exec (.engageTimerExpiry i) s = .next u.requestPass ∧ FaultedAt s u i .engageFail)
    ∧ (¬(r.state = .releasing ∧ r.releaseTimer ≠ none) → exec (.releaseTimerExpiry i) s = .next s)
    ∧ (r.state = .releasing → r.releaseTimer ≠ none →
      ∃ u : State, exec (.releaseTimerExpiry i) s = .next u.requestPass ∧ Freed s u i)

/-- R62 to R65, R74: a re-split of a record whose present its feeders can carry leaves each STALE feeder its frozen share, each ONLINE
feeder at most its usable capacity and every other 0, summing to the present exactly. It goes in rounds: a feeder of the open set that
is offered its usable capacity or more is fixed at it and leaves the set, with that much placed; in a round that fixes none, each gets
its part by weight, rounded toward zero, and the first of them in feeder-list order one unit more each until the leftover is used up. -/
def Obligations.SplitPlacesPresent : Prop :=
  ∀ (s t : State) (i : Slot) (fs : List Feeder) (present frozen : Nat), t = s.reSplit i → fs = (s.record i).feeders →
    present = (s.record i).present → (fs.map fun f => f.channel).Nodup → (∀ f ∈ fs, 1 ≤ f.weight) →
    frozen = (fs.map fun f => if (s.channel f.channel).condition = .stale then (s.channel f.channel).frozen else 0).sum →
    frozen ≤ present → present ≤ (fs.map fun f => (s.channel f.channel).usable).sum →
    (fs.map fun f => (t.channel f.channel).share).sum = present
    ∧ (∀ f ∈ fs, { t.channel f.channel with share := (s.channel f.channel).share } = s.channel f.channel
        ∧ ((s.channel f.channel).condition = .stale → (t.channel f.channel).share = (s.channel f.channel).frozen)
        ∧ ((s.channel f.channel).condition = .online → (t.channel f.channel).share ≤ (s.channel f.channel).usable)
        ∧ ((s.channel f.channel).condition ≠ .stale → (s.channel f.channel).condition ≠ .online →
            (t.channel f.channel).share = 0))
    ∧ (∀ c : Chan, (∀ f ∈ fs, f.channel ≠ c) → t.channel c = s.channel c)
    ∧ { t with channels := s.channels } = s
    ∧ ∀ (os : List Feeder) (r w : Nat), OpensRound s i os r → w = (os.map fun f => f.weight).sum →
      (∀ f ∈ os, (s.channel f.channel).usable ≤ r * f.weight / w →
        (t.channel f.channel).share = (s.channel f.channel).usable)
      ∧ ((∀ f ∈ os, r * f.weight / w < (s.channel f.channel).usable) →
        ∀ (before after : List Feeder) (f : Feeder), os = before ++ f :: after →
          (t.channel f.channel).share = r * f.weight / w
            + if before.length < r - (os.map fun g => r * g.weight / w).sum then 1 else 0)

/-- R66 to R69, R20, R73: a capacity event at a channel bound to a live record. An ACTIVE record whose carrying capacity falls below
its floor becomes FAULTED; one whose capacity falls below its present is cut to it, and otherwise only split anew. A RELEASING record
with present above 0 goes to 0 below its floor, and is cut or split anew otherwise. Every other record is left as it is. A pass is
requested in every case; at a channel not bound to a live record nothing happens. -/
def Obligations.CapacityEventsReachTheRecord : Prop :=
  ∀ (s : State) (c : Chan),
    ((s.channel c).owner = none → s.capacityEvent c = s)
    ∧ ∀ (i : Slot) (r : DrawRecord) (k : Nat), (s.channel c).owner = some i → r = s.record i →
      k = (r.feeders.map fun f => (s.channel f.channel).usable).sum →
      (r.state = .free → s.capacityEvent c = s)
      ∧ (r.state = .active → k < r.floor → ∃ u : State, s.capacityEvent c = u.requestPass ∧ FaultedAt s u i .capacity)
      ∧ (r.state = .active → r.floor ≤ k → k < r.present →
        s.capacityEvent c = (let u := (s.setRecord i { r with present := k }).reSplit i
          if k = r.target then u.occurMember srcArrival i.val else u).requestPass)
      ∧ (r.state = .active → r.floor ≤ k → r.present ≤ k → s.capacityEvent c = (s.reSplit i).requestPass)
      ∧ (r.state = .releasing → 0 < r.present → k < r.floor →
        ∃ u : State, s.capacityEvent c = u.requestPass
          ∧ u.table = (s.setRecord i { r with present := 0, releaseTimer := some s.timing.releaseTime }).table
          ∧ (∀ f ∈ r.feeders, u.channel f.channel = { s.channel f.channel with share := 0, frozen := 0 })
          ∧ (∀ d : Chan, (∀ f ∈ r.feeders, f.channel ≠ d) → u.channel d = s.channel d)
          ∧ { u with table := s.table, channels := s.channels } = s)
      ∧ (r.state = .releasing → 0 < r.present → r.floor ≤ k → k < r.present →
        s.capacityEvent c = ((s.setRecord i { r with present := k }).reSplit i).requestPass)
      ∧ (r.state = .releasing → 0 < r.present → r.floor ≤ k → r.present ≤ k → s.capacityEvent c = (s.reSplit i).requestPass)
      ∧ (r.state = .pending ∨ r.state = .engaging ∨ r.state = .shed ∨ r.state = .faulted
          ∨ (r.state = .releasing ∧ r.present = 0) → s.capacityEvent c = s.requestPass)

/-! ## The rectifier lines (chapter 6) -/

/-- R120, R123, R124, R132 to R141, R125, R126: a channel's valid FETCH on a hunting line changes nothing where the channel is not
enabled. Otherwise the report is stored, the condition and its timers move, LIMIT and the tracking check set or clear the clamp, a
change of kind, usable capacity or clamp is a capacity event, CHANNEL, TRIPPED and TRACKING are raised where they are entered, and a
reply to the channel is pending, an older one being dropped with OVERRUN, which raises LINE where it is newly set. R192, R197: beside
what a capacity event raises, FAULT is raised for bank 3 exactly where its captures change it. A FETCH from a channel that was not ONLINE or NOT_READY is not tested. What counts as a capacity event is read from several rules (log entry 11), and
that the test uses the share and the owner as they stood before the FETCH from its first sentence (log entry 13). That a frozen share
lowered by R59 is released like any other is the model's (log entry 27). -/
def Obligations.FetchReportsChannel : Prop :=
  ∀ (c : Chan) (ready fault limit : Bool) (m : BitVec 12) (s : State) (x y : Channel) (next : Condition) (owner : RecordState)
    (moved late tested : Bool) (n : Nat) (l : Line), s.hears (lineOf c) → l = s.line (lineOf c) → l.receiver = .hunting →
    x = s.channel c →
    moved = decide (x.condition ≠ .idle ∧ x.condition ≠ .tripped) →
    next = (if moved = false then x.condition else if fault = true then .tripped else if ready = true then .online
            else .notReady) →
    owner = (match x.owner with | none => .free | some i => (s.record i).state) →
    tested = decide (owner ≠ .free ∧ (x.condition = .online ∨ x.condition = .notReady)) →
    late = decide (m.toNat + s.timing.tolerance < x.share) → n = min (x.mismatch + 1) s.timing.trackCount →
    y = { enabled := x.enabled, capacity := x.capacity, owner := x.owner, condition := next,
          share := if x.condition = .stale then 0 else x.share, frozen := if x.condition = .stale then 0 else x.frozen,
          clamp := if moved = false then x.clamp else if next ≠ .online then none
                   else if limit = true then (if owner = .active then some m.toNat else x.clamp)
                   else if tested = false then x.clamp
                   else if late = true then (if n = s.timing.trackCount then some m.toNat else x.clamp) else none,
          tracking := if moved = false then x.tracking else if next ≠ .online then false
                      else if limit = true ∨ tested = false then x.tracking
                      else if late = true then decide (n = s.timing.trackCount) || x.tracking else false,
          mismatch := if moved = false then x.mismatch else if next ≠ .online then 0
                      else if limit = true ∨ tested = false then x.mismatch else if late = true then n else 0,
          lastMeasured := m.toNat,
          lastStatus := byteOf ((if ready then 128 else 0) + (if fault then 64 else 0) + if limit then 32 else 0),
          staleTimer := if moved = false then x.staleTimer else if next = .online then some s.timing.staleTime else none,
          lostTimer := if moved = false then x.lostTimer else if next = .notReady then some s.timing.lostTime else none } →
    (x.enabled = false → exec (.fetch c ready fault limit m) s = .next s)
    ∧ (x.enabled = true → ∃ u t : State, exec (.fetch c ready fault limit m) s = .next t
        ∧ ((x.condition = .online ↔ y.condition = .online) ∧ (x.condition = .stale ↔ y.condition = .stale)
            ∧ x.usable = y.usable ∧ x.clamp = y.clamp → u = s.setChannel c y)
        ∧ (¬((x.condition = .online ↔ y.condition = .online) ∧ (x.condition = .stale ↔ y.condition = .stale)
            ∧ x.usable = y.usable ∧ x.clamp = y.clamp) → u = (s.setChannel c y).capacityEvent c)
        ∧ { t.channel c with share := y.share, frozen := y.frozen } = y
        ∧ Raises s t srcChannel (fun k => k = c.val ∧ ((next ≠ x.condition ∧ (next = .tripped ∨ next = .notReady))
            ∨ (x.tracking = false ∧ y.tracking = true)))
        ∧ Raises u t srcFault (fun k => k = 3 ∧ t.bank 3 ≠ s.bank 3)
        ∧ (∀ b : FaultBank,
            b = (if next ≠ x.condition ∧ next = .tripped then (s.bank 3).take .tripped c.val s.seq.state
                 else if x.tracking = false ∧ y.tracking = true then (s.bank 3).take .tracking c.val s.seq.state
                 else s.bank 3) →
            t.bank 3 = if l.reply ≠ none ∧ l.flags ||| 0x10 ≠ l.flags then b.take .lineError (lineOf c).val s.seq.state else b)
        ∧ t.line (lineOf c) =
            { receiver := .hunting, reply := some c, flags := if l.reply = none then l.flags else l.flags ||| 0x10 ||| 0x80 }
        ∧ (∀ k : LineNo, k ≠ lineOf c → t.line k = s.line k)
        ∧ Raises s t srcLine (fun k => k = (lineOf c).val ∧ l.reply ≠ none ∧ l.flags ||| 0x10 ≠ l.flags)
        ∧ (∀ k : SourceNo, k ≠ srcFault → k ≠ srcChannel → k ≠ srcLine → t.source k = u.source k)
        ∧ (∀ b : BankNo, b ≠ 3 → t.bank b = u.bank b)
        ∧ { t with lines := s.lines, attention := u.attention, banks := u.banks } = u)

/-- R121 to R123, R129, R141: a FETCH whose bytes do not sum to 0 sets CHECK; the time limit of an open frame sets FRAMING; a damaged
character sets PARITY, FRAMING or both, and while a reply is sent is a collision instead; a collision sets COLLISION. The frame open is
discarded, or the rest of the reply abandoned. R77 to R81: the same on the grid line, where a frame that sums to 0 without VALID captures
FRAME_ERROR and changes nothing else. An event that cannot fall where a receiver stands does not happen (the model's choice, log
entry 4). -/
def Obligations.BadFramesAreFlagged : Prop :=
  (∀ (l : LineNo) (s : State), s.up → ∀ r : Receiver, r = (s.line l).receiver →
      ((∀ frame k, r ≠ .sending frame k) → exec (.collision l) s = .next s)
      ∧ ((∀ frame k, r ≠ .sending frame k) → s.hears l →
        (∃ t : State, exec (.fetchDiscard l) s = .next t ∧ LineFault s t l 0x04)
        ∧ (∃ t : State, exec (.rectifierCharacterError l .parity) s = .next t ∧ LineFault s t l 0x01)
        ∧ (∃ t : State, exec (.rectifierCharacterError l .framing) s = .next t ∧ LineFault s t l 0x02)
        ∧ ∃ t : State, exec (.rectifierCharacterError l .both) s = .next t ∧ LineFault s t l 0x03)
      ∧ (∀ frame k, r = .sending frame k →
        exec (.fetchDiscard l) s = .next s
        ∧ (s.hears l → ∀ d : CharFault, ∃ t : State, exec (.rectifierCharacterError l d) s = .next t ∧ LineFault s t l 0x08)
        ∧ ∃ t : State, exec (.collision l) s = .next t ∧ LineFault s t l 0x08)
      ∧ (∀ taken, r = .receiving taken → ∃ t : State, exec (.fetchTimeLimit l) s = .next t ∧ LineFault s t l 0x02)
      ∧ ((∀ taken, r ≠ .receiving taken) → exec (.fetchTimeLimit l) s = .next s))
  ∧ ∀ s : State, s.up →
      (∀ (second check : Byte) (v u d : Word) (frame : List Byte), s.hearsGrid → s.grid.receiver = .hunting →
        frame = [0xA5, second] ++ bytes2 v.toNat ++ bytes2 u.toNat ++ bytes2 d.toNat ++ [check] →
        (checkSum frame ≠ 0 → ∃ t : State, exec (.gridFrame second v u d check) s = .next t ∧ GridFault s t 0x04)
        ∧ (checkSum frame = 0 → second.getLsbD 0 = false →
            exec (.gridFrame second v u d check) s = .next (s.capture .frameError 8)))
      ∧ (∀ taken, s.grid.receiver = .receiving taken → ∃ t : State, exec .gridFrameTimeLimit s = .next t ∧ GridFault s t 0x02)
      ∧ (s.grid.receiver = .hunting → exec .gridFrameTimeLimit s = .next s)
      ∧ (s.hearsGrid → ∃ t : State, exec (.gridCharacterError .parity) s = .next t ∧ GridFault s t 0x01)
      ∧ (s.hearsGrid → ∃ t : State, exec (.gridCharacterError .framing) s = .next t ∧ GridFault s t 0x02)
      ∧ (s.hearsGrid → ∃ t : State, exec (.gridCharacterError .both) s = .next t ∧ GridFault s t 0x03)

/-- R125, R127, R128, R19, R203: a pending reply on a hunting line becomes the five bytes of a GRANT with the mode and share of R128
and the publication number of this moment, and the line is SENDING; GRANT_COMPLETE returns it to hunting. A STALE feeder of an ACTIVE
record, for which R128 foresees no reply, is answered STANDBY as R19 says of every feeder that is not ONLINE, with the share held for it
(log entry 9). A reply that cannot begin, and one that is not being sent, change nothing (the model's choice, log entry 4). R203, R205:
the driver of a line is enabled, and its TX output carries a character, exactly while it is sending and no reset lasts; otherwise TX is
high. -/
def Obligations.ReplyCarriesGrant : Prop :=
  ∀ (l : LineNo) (s : State),
    (∀ c : Chan, s.up → (s.line l).receiver = .hunting → (s.line l).reply = some c → ∀ x : Channel, x = s.channel c →
      ∀ send : GrantMode → Nat → Byte → List Byte,
      (∀ mode share check, send mode share check =
        [byteOf (0xE0 + c.val % 4), byteOf (32 * modeCode mode + share / 256), byteOf share, byteOf s.engine.pubNumber, check]) →
      (x.owner = none → ∃ check : Byte, checkSum (send .idle 0 check) = 0 ∧
        exec (.replyBegin l) s =
          .next (s.setLine l { s.line l with reply := none, receiver := .sending (send .idle 0 check) 0 }))
      ∧ (∀ (i : Slot) (r : DrawRecord), x.owner = some i → r = s.record i → r.state ≠ .free →
        ∀ (mode : GrantMode) (share : Nat),
        (mode, share) =
          (if r.state = .engaging then (.engage, 0)
           else if r.state = .active then
             if x.condition = .online then
               (if s.seq.state = .normal ∨ s.seq.state = .confirming ∨ s.seq.state = .restoring then .run else .ride, x.share)
             else if x.condition = .stale then (.standby, x.share)
             else (.standby, 0)
           else if r.state = .releasing ∧ 0 < r.present then (.run, x.share)
           else (.opened, 0)) →
        ∃ check : Byte, checkSum (send mode share check) = 0 ∧
          exec (.replyBegin l) s =
            .next (s.setLine l { s.line l with reply := none, receiver := .sending (send mode share check) 0 })))
    ∧ (s.up → (s.line l).receiver ≠ .hunting ∨ (s.line l).reply = none → exec (.replyBegin l) s = .next s)
    ∧ (∀ frame k, s.up → (s.line l).receiver = .sending frame k →
      exec (.grantComplete l) s = .next (s.setLine l { s.line l with receiver := .hunting }))
    ∧ (s.up → (∀ frame k, (s.line l).receiver ≠ .sending frame k) → exec (.grantComplete l) s = .next s)
    ∧ (∀ (frame : List Byte) (k : Nat) (b : Byte), s.up → (s.line l).receiver = .sending frame k → frame[k]? = some b →
      s.driverEnable l = true ∧ s.txOutput l = .character b)
    ∧ ((¬s.up ∨ ∀ frame k, (s.line l).receiver ≠ .sending frame k) → s.driverEnable l = false ∧ s.txOutput l = .high)

/-- R65, R66, R134, R135, R137: an ONLINE channel whose stale timer expires becomes STALE with its share frozen and its lost timer
started, which is a capacity event; a STALE or NOT_READY channel whose lost timer expires becomes LOST, its shares, clamp, tracking flag
and mismatch count cleared, which is captured. R131: that is a capacity event from STALE where the frozen share was above 0 or a clamp
is removed, and from NOT_READY never (read from several rules, log entry 11). Both raise CHANNEL. A timer that does not run does not
expire (the model's choice, log entry 4). -/
def Obligations.StaleAndLostTimersExpire : Prop :=
  ∀ (c : Chan) (s : State), s.up → ∀ x : Channel, x = s.channel c →
    (x.condition = .online → x.staleTimer ≠ none →
      exec (.staleTimerExpiry c) s =
        .next (((s.setChannel c { x with condition := .stale, frozen := x.share, staleTimer := none,
                                         lostTimer := some s.timing.lostTime }).capacityEvent c).occurMember srcChannel c.val))
    ∧ (¬(x.condition = .online ∧ x.staleTimer ≠ none) → exec (.staleTimerExpiry c) s = .next s)
    ∧ (x.condition = .stale ∨ x.condition = .notReady → x.lostTimer ≠ none → ∀ u : State,
      u = s.setChannel c { x with condition := .lost, share := 0, frozen := 0, clamp := none, tracking := false, mismatch := 0,
                                  staleTimer := none, lostTimer := none } →
      (x.condition = .stale → 0 < x.frozen ∨ x.clamp ≠ none →
        exec (.lostTimerExpiry c) s = .next (((u.capacityEvent c).occurMember srcChannel c.val).capture .lost c.val))
      ∧ (x.condition = .notReady ∨ (x.frozen = 0 ∧ x.clamp = none) →
        exec (.lostTimerExpiry c) s = .next ((u.occurMember srcChannel c.val).capture .lost c.val)))
    ∧ (¬((x.condition = .stale ∨ x.condition = .notReady) ∧ x.lostTimer ≠ none) → exec (.lostTimerExpiry c) s = .next s)

/-- R120, R123, R129, R76: what a sound character does to a receiver: a lead byte opens a frame, any other byte is passed over; the
bytes of an open frame are taken as they come, the last being checked; a byte read back right while a reply is sent is counted, and
another is a collision. The row FETCH is the characters of its frame, or, where an open frame is a first part of it, those still to
come (the model's reading, log entry 2); so is GRID_FRAME. -/
def Obligations.CharactersMakeFrames : Prop :=
  ∀ s : State, s.up →
    (∀ (l : LineNo) (b : Byte), s.hears l → (s.line l).receiver = .hunting →
      (0xC0 ≤ b.toNat ∧ b.toNat ≤ 0xC3 →
        exec (.rectifierLineCharacter l b) s = .next (s.setLine l { s.line l with receiver := .receiving [b] }))
      ∧ (b.toNat < 0xC0 ∨ 0xC3 < b.toNat → exec (.rectifierLineCharacter l b) s = .next s))
    ∧ (∀ (l : LineNo) (b : Byte) (taken : List Byte), s.hears l → (s.line l).receiver = .receiving taken → taken.length ≠ 3 →
      exec (.rectifierLineCharacter l b) s = .next (s.setLine l { s.line l with receiver := .receiving (taken ++ [b]) }))
    ∧ (∀ (l : LineNo) (lead status low check : Byte), s.hears l → (s.line l).receiver = .receiving [lead, status, low] →
      0xC0 ≤ lead.toNat → lead.toNat ≤ 0xC3 →
      ((lead.toNat + status.toNat + low.toNat + check.toNat) % 256 = 0 →
        ∃ (c : Chan) (m : BitVec 12), c.val = 4 * l.val + lead.toNat % 4 ∧ m.toNat = status.toNat % 16 * 256 + low.toNat
          ∧ exec (.rectifierLineCharacter l check) s =
            exec (.fetch c (status.getLsbD 7) (status.getLsbD 6) (status.getLsbD 5) m)
              (s.setLine l { s.line l with receiver := .hunting }))
      ∧ ((lead.toNat + status.toNat + low.toNat + check.toNat) % 256 ≠ 0 →
        ∃ t : State, exec (.rectifierLineCharacter l check) s = .next t ∧ LineFault s t l 0x04))
    ∧ (∀ (l : LineNo) (b : Byte) (frame : List Byte) (k : Nat), s.hears l → (s.line l).receiver = .sending frame k →
      (frame[k]? = some b → k + 1 < frame.length →
        exec (.rectifierLineCharacter l b) s = .next (s.setLine l { s.line l with receiver := .sending frame (k + 1) }))
      ∧ (frame[k]? = some b → k + 1 = frame.length →
        exec (.rectifierLineCharacter l b) s = .next (s.setLine l { s.line l with receiver := .hunting }))
      ∧ (frame[k]? ≠ some b → ∃ t : State, exec (.rectifierLineCharacter l b) s = .next t ∧ LineFault s t l 0x08))
    ∧ (∀ (c : Chan) (ready fault limit : Bool) (m : BitVec 12) (rest : List Byte) (taken : List Byte),
      ((s.line (lineOf c)).receiver = .receiving taken ∧ rest ≠ [] ∧ fetchBytes c ready fault limit m = taken ++ rest)
        ∨ ((∀ (ts rs : List Byte), (s.line (lineOf c)).receiver = .receiving ts → rs ≠ [] →
              fetchBytes c ready fault limit m ≠ ts ++ rs) ∧ rest = fetchBytes c ready fault limit m) →
      exec (.fetch c ready fault limit m) s =
        rest.foldl (fun out b => match out with
          | .next u => exec (.rectifierLineCharacter (lineOf c) b) u
          | out => out) (.next s))
    ∧ (∀ b : Byte, s.hearsGrid → s.grid.receiver = .hunting →
      (b = 0xA5 → exec (.gridLineCharacter b) s = .next { s with grid := { s.grid with receiver := .receiving [b] } })
      ∧ (b ≠ 0xA5 → exec (.gridLineCharacter b) s = .next s))
    ∧ (∀ (b : Byte) (taken : List Byte), s.hearsGrid → s.grid.receiver = .receiving taken → taken.length ≠ 8 →
      exec (.gridLineCharacter b) s = .next { s with grid := { s.grid with receiver := .receiving (taken ++ [b]) } })
    ∧ (∀ (second check : Byte) (v u d : Word), s.hearsGrid →
      s.grid.receiver = .receiving ([0xA5, second] ++ bytes2 v.toNat ++ bytes2 u.toNat ++ bytes2 d.toNat) →
      exec (.gridLineCharacter check) s =
        exec (.gridFrame second v u d check) { s with grid := { s.grid with receiver := .hunting } })
    ∧ (∀ (second check : Byte) (v u d : Word) (frame rest taken : List Byte),
      frame = [0xA5, second] ++ bytes2 v.toNat ++ bytes2 u.toNat ++ bytes2 d.toNat ++ [check] →
      (s.grid.receiver = .receiving taken ∧ rest ≠ [] ∧ frame = taken ++ rest)
        ∨ ((∀ (ts rs : List Byte), s.grid.receiver = .receiving ts → rs ≠ [] → frame ≠ ts ++ rs) ∧ rest = frame) →
      exec (.gridFrame second v u d check) s =
        rest.foldl (fun out b => match out with
          | .next w => exec (.gridLineCharacter b) w
          | out => out) (.next s))

/-! ## Grid Intake (chapter 4) -/

/-- R76, R79, R82 to R88, R91, R92, R118: a grid frame whose bytes sum to 0 and that carries VALID is taken on a hunting line as one
event: its clamped values, its condition bits by strict comparison with the thresholds, the sequence reference, the droop factor and the
silence timer are written; the Sequencer gets the lowest-numbered matchable profile that fits the bits, the gap indication and the
voltage; and what the droop factor and the Sequencer request reaches the Engine as one request. -/
def Obligations.GridFrameIsTaken : Prop :=
  ∀ (second check : Byte) (v u d : Word) (s t : State) (g : GridSettings) (vv uu f : Nat) (dd : Int) (conditions : Byte)
    (gap : Bool) (m : Option ProfileNo), s.hearsGrid → s.grid.receiver = .hunting → g = s.grid.settings →
    checkSum ([0xA5, second] ++ bytes2 v.toNat ++ bytes2 u.toNat ++ bytes2 d.toNat ++ [check]) = 0 →
    second.getLsbD 0 = true →
    vv = min v.toNat 1999 → uu = min u.toNat 1000 → dd = max (-999) (min d.toInt 999) →
    (f : Int) = (if dd < -(g.db : Int) then max (g.fmin : Int) (1000 - (g.k : Int) * (-dd - (g.db : Int))) else 1000) →
    conditions.getLsbD 7 = decide (vv < g.level1) → conditions.getLsbD 6 = decide (vv < g.level2) →
    conditions.getLsbD 5 = decide (vv < g.level3) → conditions.getLsbD 4 = decide (g.high < vv) →
    conditions.getLsbD 3 = decide (dd < -(g.uf : Int)) → conditions.getLsbD 2 = decide ((g.overFreq : Int) < dd) →
    conditions.getLsbD 1 = decide (g.ub < uu) → conditions.getLsbD 0 = second.getLsbD 1 →
    (gap = true ↔ ∃ r : Nat, s.grid.seqRef = some r ∧ second.toNat / 16 ≠ (r + 1) % 16) →
    (m = none → ∀ p : ProfileNo, p ≠ 8 → ¬Fits (s.profile p) conditions) →
    (∀ p : ProfileNo, m = some p → p ≠ 8 ∧ Fits (s.profile p) conditions
      ∧ ∀ q : ProfileNo, q < p → ¬Fits (s.profile q) conditions) →
    t = { s with grid := { s.grid with frameSeen := true, voltage := vv, unbalance := uu, deviation := dd,
                                       sequence := second.toNat / 16, pj := second.getLsbD 1, conditions := conditions,
                                       seqRef := some (second.toNat / 16), f := f, silenceTimer := some g.silence } } →
    exec (.gridFrame second v u d check) s =
      .next ((t.seqFrame m gap vv).1.apply (if f = s.grid.f then (t.seqFrame m gap vv).2
                                            else Request.ordinary.join (t.seqFrame m gap vv).2))

/-! ## The Ride-Through Sequencer (chapter 5) -/

/-- R97 to R101, R110, R118: a frame in NORMAL or CONFIRMING. No match ends a run in progress, with an ordinary request. A match counts
toward the confirm count of the candidate, the higher in priority of the matches of the run, a run beginning again at a gap; below that
count the Sequencer is CONFIRMING. When the count reaches it, the Sequencer enters RIDING with the snapshot of the present and of the
held values, the ride cap formed from them, RIDE raised, a waiting command overtaken, and an urgent request. -/
def Obligations.FramesConfirmARide : Prop :=
  ∀ (s : State) (m : Option ProfileNo) (gap : Bool) (voltage : Nat),
    (s.seq.state = .normal → m = none → s.seqFrame m gap voltage = (s, .none))
    ∧ (s.seq.state = .confirming → m = none →
      s.seqFrame m gap voltage
        = ({ s with seq := { s.seq with state := .normal, candidate := none, count := 0 } }, .ordinary))
    ∧ ∀ (q c : ProfileNo) (n : Nat), m = some q →
      ((s.seq.state = .normal ∧ c = q ∧ n = 1) ∨ (s.seq.state = .confirming ∧ gap = true ∧ c = q ∧ n = 1)
        ∨ (s.seq.state = .confirming ∧ gap = false
            ∧ (∃ old : ProfileNo, s.seq.candidate = some old ∧ c = if old ≤ q then old else q) ∧ n = s.seq.count + 1)) →
      (n < (s.profile c).confirm →
        s.seqFrame m gap voltage
          = ({ s with seq := { s.seq with state := .confirming, candidate := some c, count := n } }, .none))
      ∧ ((s.profile c).confirm ≤ n →
        ∃ t : State, s.seqFrame m gap voltage = (t, .urgent) ∧ RideBegins s t
          ∧ (∀ i : Slot, t.record i = { s.record i with held := heldAfter (s.record i) })
          ∧ t.seq = { s.seq with state := .riding, inUse := some c, candidate := none, count := 0, i0 := s.current,
                                 er := s.current * keeps (s.profile c) voltage / 1000, holdTimer := none,
                                 restoreTimer := none })

/-- R100, R102: a frame in RIDING. No match takes the Sequencer to HOLDING with the hold timer of the profile in use; a match of
higher priority takes the ride over, with the ride cap formed anew and an ordinary request; any other match leaves the ride as it is, the
ride cap following the voltage where the profile in use tracks it, with an ordinary request where it changes. R99, R103, R105, R107, R108,
R110, R114, R115: a frame in HOLDING, LATCHED, RESTORING or BLIND. A match in HOLDING or LATCHED continues the ride under the higher of
the two profiles, with the snapshot kept; one in RESTORING is a re-entry, with the current taken anew, the held values kept and the
re-entry count raised to at most its limit; the first frame in BLIND reaches NORMAL where the snapshot current is 0, and otherwise HOLDING
under profile 8, a match continuing as from there. Without a match HOLDING, LATCHED and RESTORING stay. -/
def Obligations.FramesSteerAndReenterARide : Prop :=
  (∀ (s : State) (m : Option ProfileNo) (gap : Bool) (voltage : Nat) (p : ProfileNo) (er : Nat), s.seq.state = .riding →
      s.seq.inUse = some p → er = s.seq.i0 * keeps (s.profile p) voltage / 1000 →
      (m = none → s.seqFrame m gap voltage
        = ({ s with seq := { s.seq with state := .holding, holdTimer := some (s.profile p).hold } }, .none))
      ∧ (∀ q : ProfileNo, m = some q → q < p →
        s.seqFrame m gap voltage
          = ({ s with seq := { s.seq with inUse := some q, er := s.seq.i0 * keeps (s.profile q) voltage / 1000 } }, .ordinary))
      ∧ (∀ q : ProfileNo, m = some q → p ≤ q → (s.profile p).tracking = true → er ≠ s.seq.er →
        s.seqFrame m gap voltage = ({ s with seq := { s.seq with er := er } }, .ordinary))
      ∧ (∀ q : ProfileNo, m = some q → p ≤ q → ((s.profile p).tracking = true → er = s.seq.er) →
        s.seqFrame m gap voltage = (s, .none)))
  ∧ ∀ (s : State) (m : Option ProfileNo) (gap : Bool) (voltage : Nat) (p : ProfileNo), s.seq.inUse = some p →
      (s.seq.state = .holding ∨ s.seq.state = .latched ∨ s.seq.state = .restoring → m = none →
        s.seqFrame m gap voltage = (s, .none))
      ∧ (∀ q c : ProfileNo, s.seq.state = .holding ∨ s.seq.state = .latched → m = some q → c = (if p ≤ q then p else q) →
        ∃ t : State, s.seqFrame m gap voltage = (t, .urgent) ∧ RideBegins s t ∧ t.table = s.table
          ∧ t.seq = { s.seq with state := .riding, inUse := some c, candidate := none, count := 0,
                                 er := s.seq.i0 * keeps (s.profile c) voltage / 1000, holdTimer := none, restoreTimer := none })
      ∧ (∀ (q : ProfileNo) (n : Nat), s.seq.state = .restoring → m = some q →
        n = (if s.seq.reentries = s.timing.reentryLimit then s.seq.reentries else s.seq.reentries + 1) →
        ∃ t : State, s.seqFrame m gap voltage = (t, .urgent) ∧ RideBegins s t ∧ t.table = s.table
          ∧ t.seq = { s.seq with state := .riding, inUse := some q, candidate := none, count := 0, i0 := s.current,
                                 er := s.current * keeps (s.profile q) voltage / 1000, reentries := n,
                                 resumeRequired := s.seq.resumeRequired || decide (n = s.timing.reentryLimit),
                                 holdTimer := none, restoreTimer := none })
      ∧ (s.seq.state = .blind → 0 < s.seq.i0 → m = none →
        s.seqFrame m gap voltage
          = ({ s with seq := { s.seq with state := .holding, inUse := some 8, holdTimer := some (s.profile 8).hold } }, .none))
      ∧ (∀ q : ProfileNo, s.seq.state = .blind → 0 < s.seq.i0 → m = some q →
        ∃ t : State, s.seqFrame m gap voltage = (t, .urgent) ∧ RideBegins s t ∧ t.table = s.table
          ∧ t.seq = { s.seq with state := .riding, inUse := some q, candidate := none, count := 0,
                                 er := s.seq.i0 * keeps (s.profile q) voltage / 1000, holdTimer := none, restoreTimer := none })
      ∧ (s.seq.state = .blind → s.seq.i0 = 0 → ∀ u : State, ReachesNormal s u →
        s.seqFrame m gap voltage = ((u.seqFrame m gap voltage).1, Request.ordinary.join (u.seqFrame m gap voltage).2))

/-- R85, R111 to R113: the silence timer's expiry takes the Sequencer to BLIND under profile 8, from every state, with RIDE raised, a
SILENCE capture of the state left, a waiting command overtaken and an urgent request. From NORMAL and CONFIRMING the snapshot is taken
and the ride cap is profile 8's part of it; from any other state the ride cap falls to that part where it is above it. R104: the hold
timer's expiry in HOLDING latches where a resume is required, with LATCH raised and a LATCHED capture, and begins the restoration
otherwise. R106, R108: the restore timer's expiry raises the ride cap by the restore step, and reaches NORMAL where it is then at or
above E1. Timers that do not run do not expire (the model's choice, log entry 4). -/
def Obligations.SequencerTimersExpire : Prop :=
  ∀ s : State, s.up →
    (s.grid.silenceTimer = none → exec .silenceTimerExpiry s = .next s)
    ∧ (s.grid.silenceTimer ≠ none → ∀ ride : Bool, ride = decide (s.seq.state ≠ .normal ∧ s.seq.state ≠ .confirming) →
      ∃ t : State, exec .silenceTimerExpiry s = .next (t.apply .urgent)
        ∧ RideBegins ((s.captureAs .silence 8 s.seq.state).setGrid { s.grid with silenceTimer := none, seqRef := none }) t
        ∧ (∀ i : Slot, t.record i = if ride then s.record i else { s.record i with held := heldAfter (s.record i) })
        ∧ t.seq = { s.seq with state := .blind, inUse := some 8, candidate := none, count := 0,
                               i0 := if ride then s.seq.i0 else s.current,
                               er := if ride then min s.seq.er (s.seq.i0 * (s.profile 8).retain / 1000)
                                     else s.current * (s.profile 8).retain / 1000,
                               holdTimer := none, restoreTimer := none })
    ∧ (¬(s.seq.state = .holding ∧ s.seq.holdTimer ≠ none) → exec .holdTimerExpiry s = .next s)
    ∧ (∀ p : ProfileNo, s.seq.state = .holding → s.seq.holdTimer ≠ none → s.seq.inUse = some p →
      (s.seq.resumeRequired = true →
        exec .holdTimerExpiry s =
          .next ((({ s with seq := { s.seq with state := .latched, holdTimer := none } } : State).occur srcLatch).captureAs
            .latched p.val .holding))
      ∧ (s.seq.resumeRequired = false →
        exec .holdTimerExpiry s =
          .next ({ s with seq := { s.seq with state := .restoring, holdTimer := none,
                                              restoreTimer := some (s.profile p).period } } : State).requestPass))
    ∧ (¬(s.seq.state = .restoring ∧ s.seq.restoreTimer ≠ none) → exec .restoreTimerExpiry s = .next s)
    ∧ ∀ (p : ProfileNo) (er : Nat), s.seq.state = .restoring → s.seq.restoreTimer ≠ none → s.seq.inUse = some p →
      er = min (s.seq.er + (s.profile p).step) 65535 →
      (er < s.engine.e0 * s.grid.f / 1000 →
        exec .restoreTimerExpiry s =
          .next ({ s with seq := { s.seq with er := er, restoreTimer := some (s.profile p).period } } : State).requestPass)
      ∧ (s.engine.e0 * s.grid.f / 1000 ≤ er →
        ∃ u : State, exec .restoreTimerExpiry s = .next u.requestPass
          ∧ ReachesNormal ({ s with seq := { s.seq with er := er } } : State) u)

/-! ## What every step keeps -/

/-- R2, R11, R12: every step keeps the law of tags and the law of feeders: no two live records carry one tag, and the channels of a
record's list are those its slot owns. -/
def Obligations.TagAndFeederLawsAreKept : Prop :=
  ∀ s t : State, step s = .next t → (TagLaw s → TagLaw t) ∧ (FeederLaw s → FreeLaw s → FeederLaw t)

/-- R1, R6, R8, R15: every step keeps floor ≤ target ≤ aim ≤ ceiling in every live record, the FREE values in every FREE record, and the
present of a record that is neither ACTIVE nor RELEASING at 0. The premises on the port are those of R151 and R152. -/
def Obligations.RecordLawsAreKept : Prop :=
  ∀ s t : State, BandLaw s → FreeLaw s → PresentLaw s → WaitingLaw s → step s = .next t →
    BandLaw t ∧ FreeLaw t ∧ PresentLaw t

/-- R15, R17, R45, R58: every step keeps the present of every ACTIVE record between its floor and its published grant, and the snapshot
of the pass in flight in agreement with the live records of the table. -/
def Obligations.PresentStaysUnderItsGrant : Prop :=
  ∀ s t : State, GrantLaw s → PassLaw s → FreeLaw s → WaitingLaw s → step s = .next t → GrantLaw t ∧ PassLaw t

/-- R41: every step keeps the law of the allocation: while the breach indication is clear, the published grants sum to no more than the
published cap, and so do the presents. The premises say what else a step needs: a present of an ACTIVE or RELEASING record under its
published grant, and a snapshot of the pass in flight that agrees with the table (R15, R45, R57). -/
def Obligations.SumsStayUnderPublishedCap : Prop :=
  ∀ s t : State, CapLaw s → ReleaseLaw s → GrantLaw s → PassLaw s → PresentLaw s → FreeLaw s → WaitingLaw s →
    step s = .next t → CapLaw t ∧ ReleaseLaw t

/-- R62, R66 to R69, R74: every step keeps the shares of every record's feeders summing to its present, its frozen shares at or below its
present, and its present at or below what its feeders can carry. -/
def Obligations.SharesSumToPresentAlways : Prop :=
  ∀ s t : State, FeederLaw s → ShareLaw s → BandLaw s → FreeLaw s → PresentLaw s → WaitingLaw s → step s = .next t → ShareLaw t

/-- R13, R99, R108, R110, R112: every step keeps the law of held values: a live record carries one exactly while the Sequencer is in a
state that holds the ride cap in effect, and a FREE record never. -/
def Obligations.HeldLawIsKept : Prop :=
  ∀ s t : State, HeldLaw s → step s = .next t → HeldLaw t

/-- R94, R96, R98, R108: every step keeps the re-entry count at or below its limit with resume-required set where they are equal, and a
candidate with a count of at least 1 and below its confirm count exactly in CONFIRMING. -/
def Obligations.SequencerLawsAreKept : Prop :=
  ∀ s t : State, ReentryLaw s → ConfirmationLaw s → WaitingLaw s → step s = .next t → ReentryLaw t ∧ ConfirmationLaw t

/-- R44, R47, R54, R151, R152: every step keeps a waiting command in EXECUTION and only while a pass is in flight, in range and one of
the seven that wait; and step expiries deferred and the rerun flag set only while a pass is in flight. -/
def Obligations.WaitingLawIsKept : Prop :=
  ∀ s t : State, WaitingLaw s → FlightLaw s → step s = .next t → WaitingLaw t ∧ FlightLaw t

/-- R186, R187, R189: every step keeps the IP of a source with a member set equal to its having members, each once and in rising order,
and a source without one without members. -/
def Obligations.AttentionLawIsKept : Prop :=
  ∀ s t : State, AttentionLaw s → step s = .next t → AttentionLaw t

/-- R194 to R196, R200, R201: every step keeps an invalid bank empty, and the severity of a bank, and its overflow, never fall but by a
power-on reset or by CLEAR FAULT BANK. That command may come as its own row, as the PUT or the row that gives its parameter byte where
its code has been taken, or in a row whose first PUT is the ignored one of R205 and whose next byte is its code, 0x59. -/
def Obligations.SeverityNeverFalls : Prop :=
  ∀ (s t : State) (c : Instr) (rest : List Instr), BankLaw s → WaitingLaw s → s.pending = c :: rest → step s = .next t →
    BankLaw t
    ∧ (c ≠ .powerOnReset → (∀ b : Byte, c ≠ .clearFaultBank b) →
        (s.port.code = some .clearFaultBank → sentBytes c = none ∧ (∀ (b : Byte) (early : Bool), c ≠ .put b early)
          ∧ ∀ b : Byte, c ≠ .unknownSelector 0x5A b) →
        (s.underway.port = true → ∀ (code : CmdCode) (ps : List Byte), sentBytes c ≠ some (code, 0x59 :: ps)) → ∀ b : BankNo,
        (s.bank b).severity.code ≤ (t.bank b).severity.code ∧ ((s.bank b).overflow = true → (t.bank b).overflow = true)
          ∧ ((s.bank b).valid = true → (t.bank b).valid = true))
end

