-- ==== Sys2Proof/Laws/State.lean ====
section
/-! SUPPORT. What every setter of the state does to every field and to every accessor: one lemma each, so that no proof has to
unfold a record update. -/

namespace Sys2Proof.Machine

variable (s : State)

/-! ## setRecord -/

@[simp] theorem setRecord_channels (i : Slot) (r : DrawRecord) : (s.setRecord i r).channels = s.channels := rfl
@[simp] theorem setRecord_lines (i : Slot) (r : DrawRecord) : (s.setRecord i r).lines = s.lines := rfl
@[simp] theorem setRecord_timing (i : Slot) (r : DrawRecord) : (s.setRecord i r).timing = s.timing := rfl
@[simp] theorem setRecord_ramp (i : Slot) (r : DrawRecord) : (s.setRecord i r).ramp = s.ramp := rfl
@[simp] theorem setRecord_seq (i : Slot) (r : DrawRecord) : (s.setRecord i r).seq = s.seq := rfl
@[simp] theorem setRecord_grid (i : Slot) (r : DrawRecord) : (s.setRecord i r).grid = s.grid := rfl
@[simp] theorem setRecord_engine (i : Slot) (r : DrawRecord) : (s.setRecord i r).engine = s.engine := rfl
@[simp] theorem setRecord_port (i : Slot) (r : DrawRecord) : (s.setRecord i r).port = s.port := rfl
@[simp] theorem setRecord_attention (i : Slot) (r : DrawRecord) : (s.setRecord i r).attention = s.attention := rfl
@[simp] theorem setRecord_banks (i : Slot) (r : DrawRecord) : (s.setRecord i r).banks = s.banks := rfl
@[simp] theorem setRecord_resetState (i : Slot) (r : DrawRecord) : (s.setRecord i r).resetState = s.resetState := rfl
@[simp] theorem setRecord_sdo (i : Slot) (r : DrawRecord) : (s.setRecord i r).sdo = s.sdo := rfl
@[simp] theorem setRecord_underway (i : Slot) (r : DrawRecord) : (s.setRecord i r).underway = s.underway := rfl
@[simp] theorem setRecord_pending (i : Slot) (r : DrawRecord) : (s.setRecord i r).pending = s.pending := rfl
@[simp] theorem setRecord_channel (i : Slot) (r : DrawRecord) (k : Chan) : (s.setRecord i r).channel k = s.channel k := rfl
@[simp] theorem setRecord_line (i : Slot) (r : DrawRecord) (k : LineNo) : (s.setRecord i r).line k = s.line k := rfl
@[simp] theorem setRecord_source (i : Slot) (r : DrawRecord) (k : SourceNo) : (s.setRecord i r).source k = s.source k := rfl
@[simp] theorem setRecord_bank (i : Slot) (r : DrawRecord) (k : BankNo) : (s.setRecord i r).bank k = s.bank k := rfl
@[simp] theorem setRecord_profile (i : Slot) (r : DrawRecord) (k : ProfileNo) : (s.setRecord i r).profile k = s.profile k := rfl

/-! ## setChannel -/

@[simp] theorem setChannel_table (c : Chan) (x : Channel) : (s.setChannel c x).table = s.table := rfl
@[simp] theorem setChannel_lines (c : Chan) (x : Channel) : (s.setChannel c x).lines = s.lines := rfl
@[simp] theorem setChannel_timing (c : Chan) (x : Channel) : (s.setChannel c x).timing = s.timing := rfl
@[simp] theorem setChannel_ramp (c : Chan) (x : Channel) : (s.setChannel c x).ramp = s.ramp := rfl
@[simp] theorem setChannel_seq (c : Chan) (x : Channel) : (s.setChannel c x).seq = s.seq := rfl
@[simp] theorem setChannel_grid (c : Chan) (x : Channel) : (s.setChannel c x).grid = s.grid := rfl
@[simp] theorem setChannel_engine (c : Chan) (x : Channel) : (s.setChannel c x).engine = s.engine := rfl
@[simp] theorem setChannel_port (c : Chan) (x : Channel) : (s.setChannel c x).port = s.port := rfl
@[simp] theorem setChannel_attention (c : Chan) (x : Channel) : (s.setChannel c x).attention = s.attention := rfl
@[simp] theorem setChannel_banks (c : Chan) (x : Channel) : (s.setChannel c x).banks = s.banks := rfl
@[simp] theorem setChannel_resetState (c : Chan) (x : Channel) : (s.setChannel c x).resetState = s.resetState := rfl
@[simp] theorem setChannel_sdo (c : Chan) (x : Channel) : (s.setChannel c x).sdo = s.sdo := rfl
@[simp] theorem setChannel_underway (c : Chan) (x : Channel) : (s.setChannel c x).underway = s.underway := rfl
@[simp] theorem setChannel_pending (c : Chan) (x : Channel) : (s.setChannel c x).pending = s.pending := rfl
@[simp] theorem setChannel_record (c : Chan) (x : Channel) (k : Slot) : (s.setChannel c x).record k = s.record k := rfl
@[simp] theorem setChannel_line (c : Chan) (x : Channel) (k : LineNo) : (s.setChannel c x).line k = s.line k := rfl
@[simp] theorem setChannel_source (c : Chan) (x : Channel) (k : SourceNo) : (s.setChannel c x).source k = s.source k := rfl
@[simp] theorem setChannel_bank (c : Chan) (x : Channel) (k : BankNo) : (s.setChannel c x).bank k = s.bank k := rfl
@[simp] theorem setChannel_profile (c : Chan) (x : Channel) (k : ProfileNo) : (s.setChannel c x).profile k = s.profile k := rfl

/-! ## setLine -/

@[simp] theorem setLine_table (l : LineNo) (x : Line) : (s.setLine l x).table = s.table := rfl
@[simp] theorem setLine_channels (l : LineNo) (x : Line) : (s.setLine l x).channels = s.channels := rfl
@[simp] theorem setLine_timing (l : LineNo) (x : Line) : (s.setLine l x).timing = s.timing := rfl
@[simp] theorem setLine_ramp (l : LineNo) (x : Line) : (s.setLine l x).ramp = s.ramp := rfl
@[simp] theorem setLine_seq (l : LineNo) (x : Line) : (s.setLine l x).seq = s.seq := rfl
@[simp] theorem setLine_grid (l : LineNo) (x : Line) : (s.setLine l x).grid = s.grid := rfl
@[simp] theorem setLine_engine (l : LineNo) (x : Line) : (s.setLine l x).engine = s.engine := rfl
@[simp] theorem setLine_port (l : LineNo) (x : Line) : (s.setLine l x).port = s.port := rfl
@[simp] theorem setLine_attention (l : LineNo) (x : Line) : (s.setLine l x).attention = s.attention := rfl
@[simp] theorem setLine_banks (l : LineNo) (x : Line) : (s.setLine l x).banks = s.banks := rfl
@[simp] theorem setLine_resetState (l : LineNo) (x : Line) : (s.setLine l x).resetState = s.resetState := rfl
@[simp] theorem setLine_sdo (l : LineNo) (x : Line) : (s.setLine l x).sdo = s.sdo := rfl
@[simp] theorem setLine_underway (l : LineNo) (x : Line) : (s.setLine l x).underway = s.underway := rfl
@[simp] theorem setLine_pending (l : LineNo) (x : Line) : (s.setLine l x).pending = s.pending := rfl
@[simp] theorem setLine_record (l : LineNo) (x : Line) (k : Slot) : (s.setLine l x).record k = s.record k := rfl
@[simp] theorem setLine_channel (l : LineNo) (x : Line) (k : Chan) : (s.setLine l x).channel k = s.channel k := rfl
@[simp] theorem setLine_source (l : LineNo) (x : Line) (k : SourceNo) : (s.setLine l x).source k = s.source k := rfl
@[simp] theorem setLine_bank (l : LineNo) (x : Line) (k : BankNo) : (s.setLine l x).bank k = s.bank k := rfl
@[simp] theorem setLine_profile (l : LineNo) (x : Line) (k : ProfileNo) : (s.setLine l x).profile k = s.profile k := rfl

/-! ## setSource -/

@[simp] theorem setSource_table (n : SourceNo) (x : AttentionSource) : (s.setSource n x).table = s.table := rfl
@[simp] theorem setSource_channels (n : SourceNo) (x : AttentionSource) : (s.setSource n x).channels = s.channels := rfl
@[simp] theorem setSource_lines (n : SourceNo) (x : AttentionSource) : (s.setSource n x).lines = s.lines := rfl
@[simp] theorem setSource_timing (n : SourceNo) (x : AttentionSource) : (s.setSource n x).timing = s.timing := rfl
@[simp] theorem setSource_ramp (n : SourceNo) (x : AttentionSource) : (s.setSource n x).ramp = s.ramp := rfl
@[simp] theorem setSource_seq (n : SourceNo) (x : AttentionSource) : (s.setSource n x).seq = s.seq := rfl
@[simp] theorem setSource_grid (n : SourceNo) (x : AttentionSource) : (s.setSource n x).grid = s.grid := rfl
@[simp] theorem setSource_engine (n : SourceNo) (x : AttentionSource) : (s.setSource n x).engine = s.engine := rfl
@[simp] theorem setSource_port (n : SourceNo) (x : AttentionSource) : (s.setSource n x).port = s.port := rfl
@[simp] theorem setSource_banks (n : SourceNo) (x : AttentionSource) : (s.setSource n x).banks = s.banks := rfl
@[simp] theorem setSource_resetState (n : SourceNo) (x : AttentionSource) : (s.setSource n x).resetState = s.resetState := rfl
@[simp] theorem setSource_sdo (n : SourceNo) (x : AttentionSource) : (s.setSource n x).sdo = s.sdo := rfl
@[simp] theorem setSource_underway (n : SourceNo) (x : AttentionSource) : (s.setSource n x).underway = s.underway := rfl
@[simp] theorem setSource_pending (n : SourceNo) (x : AttentionSource) : (s.setSource n x).pending = s.pending := rfl
@[simp] theorem setSource_record (n : SourceNo) (x : AttentionSource) (k : Slot) : (s.setSource n x).record k = s.record k := rfl
@[simp] theorem setSource_channel (n : SourceNo) (x : AttentionSource) (k : Chan) : (s.setSource n x).channel k = s.channel k := rfl
@[simp] theorem setSource_line (n : SourceNo) (x : AttentionSource) (k : LineNo) : (s.setSource n x).line k = s.line k := rfl
@[simp] theorem setSource_bank (n : SourceNo) (x : AttentionSource) (k : BankNo) : (s.setSource n x).bank k = s.bank k := rfl
@[simp] theorem setSource_profile (n : SourceNo) (x : AttentionSource) (k : ProfileNo) : (s.setSource n x).profile k = s.profile k := rfl

/-! ## setBank -/

@[simp] theorem setBank_table (b : BankNo) (x : FaultBank) : (s.setBank b x).table = s.table := rfl
@[simp] theorem setBank_channels (b : BankNo) (x : FaultBank) : (s.setBank b x).channels = s.channels := rfl
@[simp] theorem setBank_lines (b : BankNo) (x : FaultBank) : (s.setBank b x).lines = s.lines := rfl
@[simp] theorem setBank_timing (b : BankNo) (x : FaultBank) : (s.setBank b x).timing = s.timing := rfl
@[simp] theorem setBank_ramp (b : BankNo) (x : FaultBank) : (s.setBank b x).ramp = s.ramp := rfl
@[simp] theorem setBank_seq (b : BankNo) (x : FaultBank) : (s.setBank b x).seq = s.seq := rfl
@[simp] theorem setBank_grid (b : BankNo) (x : FaultBank) : (s.setBank b x).grid = s.grid := rfl
@[simp] theorem setBank_engine (b : BankNo) (x : FaultBank) : (s.setBank b x).engine = s.engine := rfl
@[simp] theorem setBank_port (b : BankNo) (x : FaultBank) : (s.setBank b x).port = s.port := rfl
@[simp] theorem setBank_attention (b : BankNo) (x : FaultBank) : (s.setBank b x).attention = s.attention := rfl
@[simp] theorem setBank_resetState (b : BankNo) (x : FaultBank) : (s.setBank b x).resetState = s.resetState := rfl
@[simp] theorem setBank_sdo (b : BankNo) (x : FaultBank) : (s.setBank b x).sdo = s.sdo := rfl
@[simp] theorem setBank_underway (b : BankNo) (x : FaultBank) : (s.setBank b x).underway = s.underway := rfl
@[simp] theorem setBank_pending (b : BankNo) (x : FaultBank) : (s.setBank b x).pending = s.pending := rfl
@[simp] theorem setBank_record (b : BankNo) (x : FaultBank) (k : Slot) : (s.setBank b x).record k = s.record k := rfl
@[simp] theorem setBank_channel (b : BankNo) (x : FaultBank) (k : Chan) : (s.setBank b x).channel k = s.channel k := rfl
@[simp] theorem setBank_line (b : BankNo) (x : FaultBank) (k : LineNo) : (s.setBank b x).line k = s.line k := rfl
@[simp] theorem setBank_source (b : BankNo) (x : FaultBank) (k : SourceNo) : (s.setBank b x).source k = s.source k := rfl
@[simp] theorem setBank_profile (b : BankNo) (x : FaultBank) (k : ProfileNo) : (s.setBank b x).profile k = s.profile k := rfl

/-! ## mapRecords -/

@[simp] theorem mapRecords_channels (g : DrawRecord → DrawRecord) : (s.mapRecords g).channels = s.channels := rfl
@[simp] theorem mapRecords_lines (g : DrawRecord → DrawRecord) : (s.mapRecords g).lines = s.lines := rfl
@[simp] theorem mapRecords_timing (g : DrawRecord → DrawRecord) : (s.mapRecords g).timing = s.timing := rfl
@[simp] theorem mapRecords_ramp (g : DrawRecord → DrawRecord) : (s.mapRecords g).ramp = s.ramp := rfl
@[simp] theorem mapRecords_seq (g : DrawRecord → DrawRecord) : (s.mapRecords g).seq = s.seq := rfl
@[simp] theorem mapRecords_grid (g : DrawRecord → DrawRecord) : (s.mapRecords g).grid = s.grid := rfl
@[simp] theorem mapRecords_engine (g : DrawRecord → DrawRecord) : (s.mapRecords g).engine = s.engine := rfl
@[simp] theorem mapRecords_port (g : DrawRecord → DrawRecord) : (s.mapRecords g).port = s.port := rfl
@[simp] theorem mapRecords_attention (g : DrawRecord → DrawRecord) : (s.mapRecords g).attention = s.attention := rfl
@[simp] theorem mapRecords_banks (g : DrawRecord → DrawRecord) : (s.mapRecords g).banks = s.banks := rfl
@[simp] theorem mapRecords_resetState (g : DrawRecord → DrawRecord) : (s.mapRecords g).resetState = s.resetState := rfl
@[simp] theorem mapRecords_sdo (g : DrawRecord → DrawRecord) : (s.mapRecords g).sdo = s.sdo := rfl
@[simp] theorem mapRecords_underway (g : DrawRecord → DrawRecord) : (s.mapRecords g).underway = s.underway := rfl
@[simp] theorem mapRecords_pending (g : DrawRecord → DrawRecord) : (s.mapRecords g).pending = s.pending := rfl
@[simp] theorem mapRecords_channel (g : DrawRecord → DrawRecord) (k : Chan) : (s.mapRecords g).channel k = s.channel k := rfl
@[simp] theorem mapRecords_line (g : DrawRecord → DrawRecord) (k : LineNo) : (s.mapRecords g).line k = s.line k := rfl
@[simp] theorem mapRecords_source (g : DrawRecord → DrawRecord) (k : SourceNo) : (s.mapRecords g).source k = s.source k := rfl
@[simp] theorem mapRecords_bank (g : DrawRecord → DrawRecord) (k : BankNo) : (s.mapRecords g).bank k = s.bank k := rfl
@[simp] theorem mapRecords_profile (g : DrawRecord → DrawRecord) (k : ProfileNo) : (s.mapRecords g).profile k = s.profile k := rfl

/-! ## mapChannels -/

@[simp] theorem mapChannels_table (g : Channel → Channel) : (s.mapChannels g).table = s.table := rfl
@[simp] theorem mapChannels_lines (g : Channel → Channel) : (s.mapChannels g).lines = s.lines := rfl
@[simp] theorem mapChannels_timing (g : Channel → Channel) : (s.mapChannels g).timing = s.timing := rfl
@[simp] theorem mapChannels_ramp (g : Channel → Channel) : (s.mapChannels g).ramp = s.ramp := rfl
@[simp] theorem mapChannels_seq (g : Channel → Channel) : (s.mapChannels g).seq = s.seq := rfl
@[simp] theorem mapChannels_grid (g : Channel → Channel) : (s.mapChannels g).grid = s.grid := rfl
@[simp] theorem mapChannels_engine (g : Channel → Channel) : (s.mapChannels g).engine = s.engine := rfl
@[simp] theorem mapChannels_port (g : Channel → Channel) : (s.mapChannels g).port = s.port := rfl
@[simp] theorem mapChannels_attention (g : Channel → Channel) : (s.mapChannels g).attention = s.attention := rfl
@[simp] theorem mapChannels_banks (g : Channel → Channel) : (s.mapChannels g).banks = s.banks := rfl
@[simp] theorem mapChannels_resetState (g : Channel → Channel) : (s.mapChannels g).resetState = s.resetState := rfl
@[simp] theorem mapChannels_sdo (g : Channel → Channel) : (s.mapChannels g).sdo = s.sdo := rfl
@[simp] theorem mapChannels_underway (g : Channel → Channel) : (s.mapChannels g).underway = s.underway := rfl
@[simp] theorem mapChannels_pending (g : Channel → Channel) : (s.mapChannels g).pending = s.pending := rfl
@[simp] theorem mapChannels_record (g : Channel → Channel) (k : Slot) : (s.mapChannels g).record k = s.record k := rfl
@[simp] theorem mapChannels_line (g : Channel → Channel) (k : LineNo) : (s.mapChannels g).line k = s.line k := rfl
@[simp] theorem mapChannels_source (g : Channel → Channel) (k : SourceNo) : (s.mapChannels g).source k = s.source k := rfl
@[simp] theorem mapChannels_bank (g : Channel → Channel) (k : BankNo) : (s.mapChannels g).bank k = s.bank k := rfl
@[simp] theorem mapChannels_profile (g : Channel → Channel) (k : ProfileNo) : (s.mapChannels g).profile k = s.profile k := rfl

/-! ## setTiming -/

@[simp] theorem setTiming_table (x : Timing) : (s.setTiming x).table = s.table := rfl
@[simp] theorem setTiming_channels (x : Timing) : (s.setTiming x).channels = s.channels := rfl
@[simp] theorem setTiming_lines (x : Timing) : (s.setTiming x).lines = s.lines := rfl
@[simp] theorem setTiming_timing (x : Timing) : (s.setTiming x).timing = x := rfl
@[simp] theorem setTiming_ramp (x : Timing) : (s.setTiming x).ramp = s.ramp := rfl
@[simp] theorem setTiming_seq (x : Timing) : (s.setTiming x).seq = s.seq := rfl
@[simp] theorem setTiming_grid (x : Timing) : (s.setTiming x).grid = s.grid := rfl
@[simp] theorem setTiming_engine (x : Timing) : (s.setTiming x).engine = s.engine := rfl
@[simp] theorem setTiming_port (x : Timing) : (s.setTiming x).port = s.port := rfl
@[simp] theorem setTiming_attention (x : Timing) : (s.setTiming x).attention = s.attention := rfl
@[simp] theorem setTiming_banks (x : Timing) : (s.setTiming x).banks = s.banks := rfl
@[simp] theorem setTiming_resetState (x : Timing) : (s.setTiming x).resetState = s.resetState := rfl
@[simp] theorem setTiming_sdo (x : Timing) : (s.setTiming x).sdo = s.sdo := rfl
@[simp] theorem setTiming_underway (x : Timing) : (s.setTiming x).underway = s.underway := rfl
@[simp] theorem setTiming_pending (x : Timing) : (s.setTiming x).pending = s.pending := rfl
@[simp] theorem setTiming_record (x : Timing) (k : Slot) : (s.setTiming x).record k = s.record k := rfl
@[simp] theorem setTiming_channel (x : Timing) (k : Chan) : (s.setTiming x).channel k = s.channel k := rfl
@[simp] theorem setTiming_line (x : Timing) (k : LineNo) : (s.setTiming x).line k = s.line k := rfl
@[simp] theorem setTiming_source (x : Timing) (k : SourceNo) : (s.setTiming x).source k = s.source k := rfl
@[simp] theorem setTiming_bank (x : Timing) (k : BankNo) : (s.setTiming x).bank k = s.bank k := rfl
@[simp] theorem setTiming_profile (x : Timing) (k : ProfileNo) : (s.setTiming x).profile k = s.profile k := rfl

/-! ## setRamp -/

@[simp] theorem setRamp_table (x : Ramp) : (s.setRamp x).table = s.table := rfl
@[simp] theorem setRamp_channels (x : Ramp) : (s.setRamp x).channels = s.channels := rfl
@[simp] theorem setRamp_lines (x : Ramp) : (s.setRamp x).lines = s.lines := rfl
@[simp] theorem setRamp_timing (x : Ramp) : (s.setRamp x).timing = s.timing := rfl
@[simp] theorem setRamp_ramp (x : Ramp) : (s.setRamp x).ramp = x := rfl
@[simp] theorem setRamp_seq (x : Ramp) : (s.setRamp x).seq = s.seq := rfl
@[simp] theorem setRamp_grid (x : Ramp) : (s.setRamp x).grid = s.grid := rfl
@[simp] theorem setRamp_engine (x : Ramp) : (s.setRamp x).engine = s.engine := rfl
@[simp] theorem setRamp_port (x : Ramp) : (s.setRamp x).port = s.port := rfl
@[simp] theorem setRamp_attention (x : Ramp) : (s.setRamp x).attention = s.attention := rfl
@[simp] theorem setRamp_banks (x : Ramp) : (s.setRamp x).banks = s.banks := rfl
@[simp] theorem setRamp_resetState (x : Ramp) : (s.setRamp x).resetState = s.resetState := rfl
@[simp] theorem setRamp_sdo (x : Ramp) : (s.setRamp x).sdo = s.sdo := rfl
@[simp] theorem setRamp_underway (x : Ramp) : (s.setRamp x).underway = s.underway := rfl
@[simp] theorem setRamp_pending (x : Ramp) : (s.setRamp x).pending = s.pending := rfl
@[simp] theorem setRamp_record (x : Ramp) (k : Slot) : (s.setRamp x).record k = s.record k := rfl
@[simp] theorem setRamp_channel (x : Ramp) (k : Chan) : (s.setRamp x).channel k = s.channel k := rfl
@[simp] theorem setRamp_line (x : Ramp) (k : LineNo) : (s.setRamp x).line k = s.line k := rfl
@[simp] theorem setRamp_source (x : Ramp) (k : SourceNo) : (s.setRamp x).source k = s.source k := rfl
@[simp] theorem setRamp_bank (x : Ramp) (k : BankNo) : (s.setRamp x).bank k = s.bank k := rfl
@[simp] theorem setRamp_profile (x : Ramp) (k : ProfileNo) : (s.setRamp x).profile k = s.profile k := rfl

/-! ## setSeq -/

@[simp] theorem setSeq_table (x : Sequencer) : (s.setSeq x).table = s.table := rfl
@[simp] theorem setSeq_channels (x : Sequencer) : (s.setSeq x).channels = s.channels := rfl
@[simp] theorem setSeq_lines (x : Sequencer) : (s.setSeq x).lines = s.lines := rfl
@[simp] theorem setSeq_timing (x : Sequencer) : (s.setSeq x).timing = s.timing := rfl
@[simp] theorem setSeq_ramp (x : Sequencer) : (s.setSeq x).ramp = s.ramp := rfl
@[simp] theorem setSeq_seq (x : Sequencer) : (s.setSeq x).seq = x := rfl
@[simp] theorem setSeq_grid (x : Sequencer) : (s.setSeq x).grid = s.grid := rfl
@[simp] theorem setSeq_engine (x : Sequencer) : (s.setSeq x).engine = s.engine := rfl
@[simp] theorem setSeq_port (x : Sequencer) : (s.setSeq x).port = s.port := rfl
@[simp] theorem setSeq_attention (x : Sequencer) : (s.setSeq x).attention = s.attention := rfl
@[simp] theorem setSeq_banks (x : Sequencer) : (s.setSeq x).banks = s.banks := rfl
@[simp] theorem setSeq_resetState (x : Sequencer) : (s.setSeq x).resetState = s.resetState := rfl
@[simp] theorem setSeq_sdo (x : Sequencer) : (s.setSeq x).sdo = s.sdo := rfl
@[simp] theorem setSeq_underway (x : Sequencer) : (s.setSeq x).underway = s.underway := rfl
@[simp] theorem setSeq_pending (x : Sequencer) : (s.setSeq x).pending = s.pending := rfl
@[simp] theorem setSeq_record (x : Sequencer) (k : Slot) : (s.setSeq x).record k = s.record k := rfl
@[simp] theorem setSeq_channel (x : Sequencer) (k : Chan) : (s.setSeq x).channel k = s.channel k := rfl
@[simp] theorem setSeq_line (x : Sequencer) (k : LineNo) : (s.setSeq x).line k = s.line k := rfl
@[simp] theorem setSeq_source (x : Sequencer) (k : SourceNo) : (s.setSeq x).source k = s.source k := rfl
@[simp] theorem setSeq_bank (x : Sequencer) (k : BankNo) : (s.setSeq x).bank k = s.bank k := rfl

/-! ## setGrid -/

@[simp] theorem setGrid_table (x : Grid) : (s.setGrid x).table = s.table := rfl
@[simp] theorem setGrid_channels (x : Grid) : (s.setGrid x).channels = s.channels := rfl
@[simp] theorem setGrid_lines (x : Grid) : (s.setGrid x).lines = s.lines := rfl
@[simp] theorem setGrid_timing (x : Grid) : (s.setGrid x).timing = s.timing := rfl
@[simp] theorem setGrid_ramp (x : Grid) : (s.setGrid x).ramp = s.ramp := rfl
@[simp] theorem setGrid_seq (x : Grid) : (s.setGrid x).seq = s.seq := rfl
@[simp] theorem setGrid_grid (x : Grid) : (s.setGrid x).grid = x := rfl
@[simp] theorem setGrid_engine (x : Grid) : (s.setGrid x).engine = s.engine := rfl
@[simp] theorem setGrid_port (x : Grid) : (s.setGrid x).port = s.port := rfl
@[simp] theorem setGrid_attention (x : Grid) : (s.setGrid x).attention = s.attention := rfl
@[simp] theorem setGrid_banks (x : Grid) : (s.setGrid x).banks = s.banks := rfl
@[simp] theorem setGrid_resetState (x : Grid) : (s.setGrid x).resetState = s.resetState := rfl
@[simp] theorem setGrid_sdo (x : Grid) : (s.setGrid x).sdo = s.sdo := rfl
@[simp] theorem setGrid_underway (x : Grid) : (s.setGrid x).underway = s.underway := rfl
@[simp] theorem setGrid_pending (x : Grid) : (s.setGrid x).pending = s.pending := rfl
@[simp] theorem setGrid_record (x : Grid) (k : Slot) : (s.setGrid x).record k = s.record k := rfl
@[simp] theorem setGrid_channel (x : Grid) (k : Chan) : (s.setGrid x).channel k = s.channel k := rfl
@[simp] theorem setGrid_line (x : Grid) (k : LineNo) : (s.setGrid x).line k = s.line k := rfl
@[simp] theorem setGrid_source (x : Grid) (k : SourceNo) : (s.setGrid x).source k = s.source k := rfl
@[simp] theorem setGrid_bank (x : Grid) (k : BankNo) : (s.setGrid x).bank k = s.bank k := rfl
@[simp] theorem setGrid_profile (x : Grid) (k : ProfileNo) : (s.setGrid x).profile k = s.profile k := rfl

/-! ## setEngine -/

@[simp] theorem setEngine_table (x : Engine) : (s.setEngine x).table = s.table := rfl
@[simp] theorem setEngine_channels (x : Engine) : (s.setEngine x).channels = s.channels := rfl
@[simp] theorem setEngine_lines (x : Engine) : (s.setEngine x).lines = s.lines := rfl
@[simp] theorem setEngine_timing (x : Engine) : (s.setEngine x).timing = s.timing := rfl
@[simp] theorem setEngine_ramp (x : Engine) : (s.setEngine x).ramp = s.ramp := rfl
@[simp] theorem setEngine_seq (x : Engine) : (s.setEngine x).seq = s.seq := rfl
@[simp] theorem setEngine_grid (x : Engine) : (s.setEngine x).grid = s.grid := rfl
@[simp] theorem setEngine_engine (x : Engine) : (s.setEngine x).engine = x := rfl
@[simp] theorem setEngine_port (x : Engine) : (s.setEngine x).port = s.port := rfl
@[simp] theorem setEngine_attention (x : Engine) : (s.setEngine x).attention = s.attention := rfl
@[simp] theorem setEngine_banks (x : Engine) : (s.setEngine x).banks = s.banks := rfl
@[simp] theorem setEngine_resetState (x : Engine) : (s.setEngine x).resetState = s.resetState := rfl
@[simp] theorem setEngine_sdo (x : Engine) : (s.setEngine x).sdo = s.sdo := rfl
@[simp] theorem setEngine_underway (x : Engine) : (s.setEngine x).underway = s.underway := rfl
@[simp] theorem setEngine_pending (x : Engine) : (s.setEngine x).pending = s.pending := rfl
@[simp] theorem setEngine_record (x : Engine) (k : Slot) : (s.setEngine x).record k = s.record k := rfl
@[simp] theorem setEngine_channel (x : Engine) (k : Chan) : (s.setEngine x).channel k = s.channel k := rfl
@[simp] theorem setEngine_line (x : Engine) (k : LineNo) : (s.setEngine x).line k = s.line k := rfl
@[simp] theorem setEngine_source (x : Engine) (k : SourceNo) : (s.setEngine x).source k = s.source k := rfl
@[simp] theorem setEngine_bank (x : Engine) (k : BankNo) : (s.setEngine x).bank k = s.bank k := rfl
@[simp] theorem setEngine_profile (x : Engine) (k : ProfileNo) : (s.setEngine x).profile k = s.profile k := rfl

/-! ## setPort -/

@[simp] theorem setPort_table (x : Port) : (s.setPort x).table = s.table := rfl
@[simp] theorem setPort_channels (x : Port) : (s.setPort x).channels = s.channels := rfl
@[simp] theorem setPort_lines (x : Port) : (s.setPort x).lines = s.lines := rfl
@[simp] theorem setPort_timing (x : Port) : (s.setPort x).timing = s.timing := rfl
@[simp] theorem setPort_ramp (x : Port) : (s.setPort x).ramp = s.ramp := rfl
@[simp] theorem setPort_seq (x : Port) : (s.setPort x).seq = s.seq := rfl
@[simp] theorem setPort_grid (x : Port) : (s.setPort x).grid = s.grid := rfl
@[simp] theorem setPort_engine (x : Port) : (s.setPort x).engine = s.engine := rfl
@[simp] theorem setPort_port (x : Port) : (s.setPort x).port = x := rfl
@[simp] theorem setPort_attention (x : Port) : (s.setPort x).attention = s.attention := rfl
@[simp] theorem setPort_banks (x : Port) : (s.setPort x).banks = s.banks := rfl
@[simp] theorem setPort_resetState (x : Port) : (s.setPort x).resetState = s.resetState := rfl
@[simp] theorem setPort_sdo (x : Port) : (s.setPort x).sdo = s.sdo := rfl
@[simp] theorem setPort_underway (x : Port) : (s.setPort x).underway = s.underway := rfl
@[simp] theorem setPort_pending (x : Port) : (s.setPort x).pending = s.pending := rfl
@[simp] theorem setPort_record (x : Port) (k : Slot) : (s.setPort x).record k = s.record k := rfl
@[simp] theorem setPort_channel (x : Port) (k : Chan) : (s.setPort x).channel k = s.channel k := rfl
@[simp] theorem setPort_line (x : Port) (k : LineNo) : (s.setPort x).line k = s.line k := rfl
@[simp] theorem setPort_source (x : Port) (k : SourceNo) : (s.setPort x).source k = s.source k := rfl
@[simp] theorem setPort_bank (x : Port) (k : BankNo) : (s.setPort x).bank k = s.bank k := rfl
@[simp] theorem setPort_profile (x : Port) (k : ProfileNo) : (s.setPort x).profile k = s.profile k := rfl

/-! ## setSdo -/

@[simp] theorem setSdo_table (b : Byte) : (s.setSdo b).table = s.table := rfl
@[simp] theorem setSdo_channels (b : Byte) : (s.setSdo b).channels = s.channels := rfl
@[simp] theorem setSdo_lines (b : Byte) : (s.setSdo b).lines = s.lines := rfl
@[simp] theorem setSdo_timing (b : Byte) : (s.setSdo b).timing = s.timing := rfl
@[simp] theorem setSdo_ramp (b : Byte) : (s.setSdo b).ramp = s.ramp := rfl
@[simp] theorem setSdo_seq (b : Byte) : (s.setSdo b).seq = s.seq := rfl
@[simp] theorem setSdo_grid (b : Byte) : (s.setSdo b).grid = s.grid := rfl
@[simp] theorem setSdo_engine (b : Byte) : (s.setSdo b).engine = s.engine := rfl
@[simp] theorem setSdo_port (b : Byte) : (s.setSdo b).port = s.port := rfl
@[simp] theorem setSdo_attention (b : Byte) : (s.setSdo b).attention = s.attention := rfl
@[simp] theorem setSdo_banks (b : Byte) : (s.setSdo b).banks = s.banks := rfl
@[simp] theorem setSdo_resetState (b : Byte) : (s.setSdo b).resetState = s.resetState := rfl
@[simp] theorem setSdo_sdo (b : Byte) : (s.setSdo b).sdo = b := rfl
@[simp] theorem setSdo_underway (b : Byte) : (s.setSdo b).underway = s.underway := rfl
@[simp] theorem setSdo_pending (b : Byte) : (s.setSdo b).pending = s.pending := rfl
@[simp] theorem setSdo_record (b : Byte) (k : Slot) : (s.setSdo b).record k = s.record k := rfl
@[simp] theorem setSdo_channel (b : Byte) (k : Chan) : (s.setSdo b).channel k = s.channel k := rfl
@[simp] theorem setSdo_line (b : Byte) (k : LineNo) : (s.setSdo b).line k = s.line k := rfl
@[simp] theorem setSdo_source (b : Byte) (k : SourceNo) : (s.setSdo b).source k = s.source k := rfl
@[simp] theorem setSdo_bank (b : Byte) (k : BankNo) : (s.setSdo b).bank k = s.bank k := rfl
@[simp] theorem setSdo_profile (b : Byte) (k : ProfileNo) : (s.setSdo b).profile k = s.profile k := rfl

/-! ## setUnderway -/

@[simp] theorem setUnderway_table (x : Underway) : (s.setUnderway x).table = s.table := rfl
@[simp] theorem setUnderway_channels (x : Underway) : (s.setUnderway x).channels = s.channels := rfl
@[simp] theorem setUnderway_lines (x : Underway) : (s.setUnderway x).lines = s.lines := rfl
@[simp] theorem setUnderway_timing (x : Underway) : (s.setUnderway x).timing = s.timing := rfl
@[simp] theorem setUnderway_ramp (x : Underway) : (s.setUnderway x).ramp = s.ramp := rfl
@[simp] theorem setUnderway_seq (x : Underway) : (s.setUnderway x).seq = s.seq := rfl
@[simp] theorem setUnderway_grid (x : Underway) : (s.setUnderway x).grid = s.grid := rfl
@[simp] theorem setUnderway_engine (x : Underway) : (s.setUnderway x).engine = s.engine := rfl
@[simp] theorem setUnderway_port (x : Underway) : (s.setUnderway x).port = s.port := rfl
@[simp] theorem setUnderway_attention (x : Underway) : (s.setUnderway x).attention = s.attention := rfl
@[simp] theorem setUnderway_banks (x : Underway) : (s.setUnderway x).banks = s.banks := rfl
@[simp] theorem setUnderway_resetState (x : Underway) : (s.setUnderway x).resetState = s.resetState := rfl
@[simp] theorem setUnderway_sdo (x : Underway) : (s.setUnderway x).sdo = s.sdo := rfl
@[simp] theorem setUnderway_underway (x : Underway) : (s.setUnderway x).underway = x := rfl
@[simp] theorem setUnderway_pending (x : Underway) : (s.setUnderway x).pending = s.pending := rfl
@[simp] theorem setUnderway_record (x : Underway) (k : Slot) : (s.setUnderway x).record k = s.record k := rfl
@[simp] theorem setUnderway_channel (x : Underway) (k : Chan) : (s.setUnderway x).channel k = s.channel k := rfl
@[simp] theorem setUnderway_line (x : Underway) (k : LineNo) : (s.setUnderway x).line k = s.line k := rfl
@[simp] theorem setUnderway_source (x : Underway) (k : SourceNo) : (s.setUnderway x).source k = s.source k := rfl
@[simp] theorem setUnderway_bank (x : Underway) (k : BankNo) : (s.setUnderway x).bank k = s.bank k := rfl
@[simp] theorem setUnderway_profile (x : Underway) (k : ProfileNo) : (s.setUnderway x).profile k = s.profile k := rfl

/-! ## setPending -/

@[simp] theorem setPending_table (q : List Instr) : (s.setPending q).table = s.table := rfl
@[simp] theorem setPending_channels (q : List Instr) : (s.setPending q).channels = s.channels := rfl
@[simp] theorem setPending_lines (q : List Instr) : (s.setPending q).lines = s.lines := rfl
@[simp] theorem setPending_timing (q : List Instr) : (s.setPending q).timing = s.timing := rfl
@[simp] theorem setPending_ramp (q : List Instr) : (s.setPending q).ramp = s.ramp := rfl
@[simp] theorem setPending_seq (q : List Instr) : (s.setPending q).seq = s.seq := rfl
@[simp] theorem setPending_grid (q : List Instr) : (s.setPending q).grid = s.grid := rfl
@[simp] theorem setPending_engine (q : List Instr) : (s.setPending q).engine = s.engine := rfl
@[simp] theorem setPending_port (q : List Instr) : (s.setPending q).port = s.port := rfl
@[simp] theorem setPending_attention (q : List Instr) : (s.setPending q).attention = s.attention := rfl
@[simp] theorem setPending_banks (q : List Instr) : (s.setPending q).banks = s.banks := rfl
@[simp] theorem setPending_resetState (q : List Instr) : (s.setPending q).resetState = s.resetState := rfl
@[simp] theorem setPending_sdo (q : List Instr) : (s.setPending q).sdo = s.sdo := rfl
@[simp] theorem setPending_underway (q : List Instr) : (s.setPending q).underway = s.underway := rfl
@[simp] theorem setPending_pending (q : List Instr) : (s.setPending q).pending = q := rfl
@[simp] theorem setPending_record (q : List Instr) (k : Slot) : (s.setPending q).record k = s.record k := rfl
@[simp] theorem setPending_channel (q : List Instr) (k : Chan) : (s.setPending q).channel k = s.channel k := rfl
@[simp] theorem setPending_line (q : List Instr) (k : LineNo) : (s.setPending q).line k = s.line k := rfl
@[simp] theorem setPending_source (q : List Instr) (k : SourceNo) : (s.setPending q).source k = s.source k := rfl
@[simp] theorem setPending_bank (q : List Instr) (k : BankNo) : (s.setPending q).bank k = s.bank k := rfl
@[simp] theorem setPending_profile (q : List Instr) (k : ProfileNo) : (s.setPending q).profile k = s.profile k := rfl

/-! ## One entry of a table after it, or another, has been replaced -/

theorem get_set_self {α : Type} {n : Nat} (v : Vector α n) (i : Fin n) (x : α) : (v.set i x).get i = x := by
  simp [Vector.get_eq_getElem]

theorem get_set_ne {α : Type} {n : Nat} (v : Vector α n) (i j : Fin n) (x : α) (h : i ≠ j) :
    (v.set i x).get j = v.get j := by
  have : i.val ≠ j.val := fun e => h (Fin.ext e)
  simp [Vector.get_eq_getElem, this]

theorem set_get_self {α : Type} {n : Nat} (v : Vector α n) (i : Fin n) : v.set i (v.get i) = v := by
  simp [Vector.get_eq_getElem]

theorem get_mapV {α β : Type} {n : Nat} (g : α → β) (v : Vector α n) (i : Fin n) : (mapV g v).get i = g (v.get i) := by
  simp [Vector.get_eq_getElem, mapV]

@[simp] theorem record_setRecord_self (i : Slot) (r : DrawRecord) : (s.setRecord i r).record i = r :=
  get_set_self s.table i r

theorem record_setRecord_ne {i j : Slot} (r : DrawRecord) (h : i ≠ j) : (s.setRecord i r).record j = s.record j :=
  get_set_ne s.table i j r h

theorem record_setRecord (i j : Slot) (r : DrawRecord) : (s.setRecord i r).record j = if i = j then r else s.record j := by
  by_cases h : i = j
  · subst h; simp
  · simp [h, record_setRecord_ne]

@[simp] theorem channel_setChannel_self (c : Chan) (x : Channel) : (s.setChannel c x).channel c = x :=
  get_set_self s.channels c x

theorem channel_setChannel_ne {c d : Chan} (x : Channel) (h : c ≠ d) : (s.setChannel c x).channel d = s.channel d :=
  get_set_ne s.channels c d x h

theorem channel_setChannel (c d : Chan) (x : Channel) : (s.setChannel c x).channel d = if c = d then x else s.channel d := by
  by_cases h : c = d
  · subst h; simp
  · simp [h, channel_setChannel_ne]

@[simp] theorem line_setLine_self (l : LineNo) (x : Line) : (s.setLine l x).line l = x := get_set_self s.lines l x

theorem line_setLine_ne {l m : LineNo} (x : Line) (h : l ≠ m) : (s.setLine l x).line m = s.line m :=
  get_set_ne s.lines l m x h

theorem line_setLine (l m : LineNo) (x : Line) : (s.setLine l x).line m = if l = m then x else s.line m := by
  by_cases h : l = m
  · subst h; simp
  · simp [h, line_setLine_ne]

@[simp] theorem source_setSource_self (n : SourceNo) (x : AttentionSource) : (s.setSource n x).source n = x :=
  get_set_self s.attention n x

theorem source_setSource_ne {n m : SourceNo} (x : AttentionSource) (h : n ≠ m) : (s.setSource n x).source m = s.source m :=
  get_set_ne s.attention n m x h

theorem source_setSource (n m : SourceNo) (x : AttentionSource) :
    (s.setSource n x).source m = if n = m then x else s.source m := by
  by_cases h : n = m
  · subst h; simp
  · simp [h, source_setSource_ne]

@[simp] theorem bank_setBank_self (b : BankNo) (x : FaultBank) : (s.setBank b x).bank b = x := get_set_self s.banks b x

theorem bank_setBank_ne {b d : BankNo} (x : FaultBank) (h : b ≠ d) : (s.setBank b x).bank d = s.bank d :=
  get_set_ne s.banks b d x h

theorem bank_setBank (b d : BankNo) (x : FaultBank) : (s.setBank b x).bank d = if b = d then x else s.bank d := by
  by_cases h : b = d
  · subst h; simp
  · simp [h, bank_setBank_ne]

@[simp] theorem record_mapRecords (g : DrawRecord → DrawRecord) (i : Slot) : (s.mapRecords g).record i = g (s.record i) :=
  get_mapV g s.table i

@[simp] theorem channel_mapChannels (g : Channel → Channel) (c : Chan) : (s.mapChannels g).channel c = g (s.channel c) :=
  get_mapV g s.channels c

@[simp] theorem setRecord_record (i : Slot) : s.setRecord i (s.record i) = s := by
  simp [State.setRecord, State.record, set_get_self]

@[simp] theorem setChannel_channel_self (c : Chan) : s.setChannel c (s.channel c) = s := by
  simp [State.setChannel, State.channel, set_get_self]

@[simp] theorem setLine_line_self (l : LineNo) : s.setLine l (s.line l) = s := by
  simp [State.setLine, State.line, set_get_self]

@[simp] theorem setSource_source_self (n : SourceNo) : s.setSource n (s.source n) = s := by
  simp [State.setSource, State.source, set_get_self]

@[simp] theorem setEngine_engine_self : s.setEngine s.engine = s := rfl

@[simp] theorem setPort_port_self : s.setPort s.port = s := rfl

@[simp] theorem setPort_setPort (x y : Port) : (s.setPort x).setPort y = s.setPort y := rfl

@[simp] theorem setSdo_setSdo (x y : Byte) : (s.setSdo x).setSdo y = s.setSdo y := rfl

@[simp] theorem setSdo_setPort (x : Byte) (y : Port) : (s.setSdo x).setPort y = (s.setPort y).setSdo x := rfl

@[simp] theorem setSeq_setSeq (x y : Sequencer) : (s.setSeq x).setSeq y = s.setSeq y := rfl

@[simp] theorem setEngine_setEngine (x y : Engine) : (s.setEngine x).setEngine y = s.setEngine y := rfl

/-- Two states that agree in every entry of the two tables and in everything else are one state. -/
theorem State.ext_tables {s t : State} (hr : ∀ i, s.record i = t.record i) (hc : ∀ c, s.channel c = t.channel c)
    (h : { s with table := t.table, channels := t.channels } = t) : s = t := by
  have h1 : s.table = t.table := by
    apply Vector.ext; intro i hi; simpa [State.record, Vector.get_eq_getElem] using hr ⟨i, hi⟩
  have h2 : s.channels = t.channels := by
    apply Vector.ext; intro i hi; simpa [State.channel, Vector.get_eq_getElem] using hc ⟨i, hi⟩
  rw [← h, ← h1, ← h2]

end Sys2Proof.Machine
end

