-- ==== Sys2Proof/Laws/Port.lean ====
section
/-! SUPPORT. The port: no block but the port reads or writes the port's own items, so the effect of a command is the same
whatever bytes it came in; and a command sent whole to a ready port begins its execution with exactly its parameter bytes. -/

namespace Sys2Proof.Machine

/-! ## Transactions (R145, R146, R205) -/

/-- R145: a transaction acts where no reset lasts and it began after the end of the last one. -/
theorem transact_attends {s : State} (h : s.attends) (out : Byte) (f : State → State) :
    s.transact out f = (f s).setSdo out := by
  have h0 : s.resetState = .running := h.1
  simp only [State.transact, h0, h.2, ↓reduceIte, Bool.false_eq_true]

/-- R205: a transaction that began before the end of a reset is ignored as a whole. -/
theorem transact_underway {s : State} (h : s.up) (hu : s.underway.port = true) (out : Byte) (f : State → State) :
    s.transact out f = s.setUnderway { s.underway with port := false } := by
  have h0 : s.resetState = .running := h
  simp only [State.transact, h0, hu, ↓reduceIte]

theorem transaction_status (s : State) (b : Byte) (e : Bool) :
    s.transaction Config.statusSelector b e = s.transact s.mainStatus id := rfl
theorem transaction_put (s : State) (b : Byte) (e : Bool) :
    s.transaction Config.putSelector b e = s.transact 0x00 fun t => t.putByte b e := rfl
theorem transaction_take (s : State) (b : Byte) (e : Bool) :
    s.transaction Config.takeSelector b e = s.transact (s.takeOut e) fun t => t.takeByte e := rfl
theorem transaction_abort (s : State) (b : Byte) (e : Bool) :
    s.transaction Config.abortSelector b e = s.transact 0x00 State.abortPort := rfl

/-- R146: a transaction with a selector that is none of the four. -/
theorem transaction_unknown (s : State) {x : Byte} (b : Byte) (e : Bool) (h1 : x ≠ Config.statusSelector)
    (h2 : x ≠ Config.putSelector) (h3 : x ≠ Config.takeSelector) (h4 : x ≠ Config.abortSelector) :
    s.transaction x b e = s.transact 0x00 State.slipped := by
  simp only [State.transaction, selectorOf, h1, h2, h3, h4, ↓reduceIte]
  rfl

/-- R204: SDO is high impedance while chip select is high. -/
@[simp] theorem sdoOutput_high (s : State) : s.sdoOutput .high = .highImpedance := by
  unfold State.sdoOutput
  split <;> rfl

/-- R204, R205: SDO is high impedance throughout a reset. -/
theorem sdoOutput_reset {s : State} (h : s.resetState ≠ .running) (select : ChipSelect) :
    s.sdoOutput select = .highImpedance := by
  simp only [State.sdoOutput, h, ↓reduceIte]

/-- R145: a transaction records the data byte that SDO carried. -/
theorem transaction_sdo {s : State} (h : s.attends) (selector data : Byte) (early : Bool) :
    s.sdoOutput (.dataByte (s.dataOut (selectorOf selector) early)) = .byte (s.transaction selector data early).sdo := by
  have h0 : s.resetState = .running := h.1
  simp [State.transaction, transact_attends h, State.sdoOutput, h0, h.2]

/-! ## The port's items and the rest of the state -/

/-- The state with the port's items and the byte last shifted out replaced. -/
def State.setIo (s : State) (p : Port) (b : Byte) : State := { s with port := p, sdo := b }

@[simp] theorem setIo_record (s : State) (p : Port) (b : Byte) (i : Slot) : (s.setIo p b).record i = s.record i := rfl
@[simp] theorem setIo_channel (s : State) (p : Port) (b : Byte) (c : Chan) : (s.setIo p b).channel c = s.channel c := rfl
@[simp] theorem setIo_line (s : State) (p : Port) (b : Byte) (l : LineNo) : (s.setIo p b).line l = s.line l := rfl
@[simp] theorem setIo_source (s : State) (p : Port) (b : Byte) (n : SourceNo) : (s.setIo p b).source n = s.source n := rfl
@[simp] theorem setIo_bank (s : State) (p : Port) (b : Byte) (n : BankNo) : (s.setIo p b).bank n = s.bank n := rfl
@[simp] theorem setIo_profile (s : State) (p : Port) (b : Byte) (n : ProfileNo) : (s.setIo p b).profile n = s.profile n := rfl
@[simp] theorem setIo_timing (s : State) (p : Port) (b : Byte) : (s.setIo p b).timing = s.timing := rfl
@[simp] theorem setIo_seq (s : State) (p : Port) (b : Byte) : (s.setIo p b).seq = s.seq := rfl
@[simp] theorem setIo_grid (s : State) (p : Port) (b : Byte) : (s.setIo p b).grid = s.grid := rfl
@[simp] theorem setIo_engine (s : State) (p : Port) (b : Byte) : (s.setIo p b).engine = s.engine := rfl

theorem setRecord_setIo (s : State) (p : Port) (b : Byte) (i : Slot) (r : DrawRecord) :
    (s.setIo p b).setRecord i r = (s.setRecord i r).setIo p b := rfl
theorem setChannel_setIo (s : State) (p : Port) (b : Byte) (c : Chan) (x : Channel) :
    (s.setIo p b).setChannel c x = (s.setChannel c x).setIo p b := rfl
theorem setLine_setIo (s : State) (p : Port) (b : Byte) (l : LineNo) (x : Line) :
    (s.setIo p b).setLine l x = (s.setLine l x).setIo p b := rfl
theorem setSource_setIo (s : State) (p : Port) (b : Byte) (n : SourceNo) (x : AttentionSource) :
    (s.setIo p b).setSource n x = (s.setSource n x).setIo p b := rfl
theorem setBank_setIo (s : State) (p : Port) (b : Byte) (n : BankNo) (x : FaultBank) :
    (s.setIo p b).setBank n x = (s.setBank n x).setIo p b := rfl
theorem setSeq_setIo (s : State) (p : Port) (b : Byte) (x : Sequencer) :
    (s.setIo p b).setSeq x = (s.setSeq x).setIo p b := rfl
theorem setGrid_setIo (s : State) (p : Port) (b : Byte) (x : Grid) :
    (s.setIo p b).setGrid x = (s.setGrid x).setIo p b := rfl
theorem setEngine_setIo (s : State) (p : Port) (b : Byte) (x : Engine) :
    (s.setIo p b).setEngine x = (s.setEngine x).setIo p b := rfl
theorem setTiming_setIo (s : State) (p : Port) (b : Byte) (x : Timing) :
    (s.setIo p b).setTiming x = (s.setTiming x).setIo p b := rfl
theorem mapChannels_setIo (s : State) (p : Port) (b : Byte) (g : Channel → Channel) :
    (s.setIo p b).mapChannels g = (s.mapChannels g).setIo p b := rfl
theorem occurMember_setIo (s : State) (p : Port) (b : Byte) (n : SourceNo) (m : Nat) :
    (s.setIo p b).occurMember n m = (s.occurMember n m).setIo p b := rfl

theorem requestPass_setIo (s : State) (p : Port) (b : Byte) : (s.setIo p b).requestPass = s.requestPass.setIo p b := by
  simp only [State.requestPass, setIo_engine]
  cases s.engine.pass <;> rfl

theorem updateFeeders_setIo (fs : List Feeder) (g : Channel → Channel) (p : Port) (b : Byte) (s : State) :
    (s.setIo p b).updateFeeders fs g = (s.updateFeeders fs g).setIo p b := by
  induction fs generalizing s with
  | nil => rfl
  | cons f fs ih =>
    simp only [State.updateFeeders, List.foldl_cons] at ih ⊢
    rw [setIo_channel, setChannel_setIo, ih]

theorem enterFree_setIo (s : State) (p : Port) (b : Byte) (i : Slot) :
    (s.setIo p b).enterFree i = (s.enterFree i).setIo p b := by
  simp only [State.enterFree, setIo_record, updateFeeders_setIo, setRecord_setIo]

theorem dropReply_setIo (s : State) (p : Port) (b : Byte) (c : Chan) :
    (s.setIo p b).dropReply c = (s.dropReply c).setIo p b := by
  simp only [State.dropReply, setIo_line, setLine_setIo]
  by_cases h : (s.line (lineOf c)).reply = some c <;> simp only [h, ↓reduceIte]

theorem setMask_setIo (s : State) (p : Port) (b : Byte) (mask : Byte) :
    (s.setIo p b).setMask mask = (s.setMask mask).setIo p b := rfl

/-- R160, R159: what a command does, and the bytes of its result, do not depend on the port's items. -/
theorem perform_setIo (c : Cmd) (s : State) (p : Port) (b : Byte) :
    perform c (s.setIo p b) = ((perform c s).1.setIo p b, (perform c s).2) := by
  cases c with
  | openDraw q =>
    simp only [perform, performOpen]
    have h : (s.setIo p b).openReasons q = s.openReasons q := rfl
    rw [h]
    split
    · simp only [setIo_seq, setRecord_setIo, updateFeeders_setIo, requestPass_setIo]
    · rfl
  | setTarget i target =>
    simp only [perform, performSetTarget, setIo_record, setRecord_setIo, occurMember_setIo]
    by_cases h : (s.record i).targetReasons target = 0
    · simp only [h, ↓reduceIte]
      by_cases h' : (s.record i).state = .active ∧ min target (s.record i).ceiling = (s.record i).present
          ∧ (s.record i).target ≠ (s.record i).present
      · simp only [h', and_self, ne_eq, not_false_eq_true, ↓reduceIte, requestPass_setIo]
        rfl
      · simp only [h', ↓reduceIte, requestPass_setIo]
        rfl
    · simp only [h, ↓reduceIte]
  | amendDraw i cls rank lock exempt up down =>
    simp only [perform, performAmend, setIo_record]
    by_cases h : (s.record i).state.noAmend = true <;> simp only [h, ↓reduceIte, setRecord_setIo, requestPass_setIo]
    rfl
  | retireDraw i =>
    simp only [perform, performRetire, setIo_record, setIo_timing]
    cases (s.record i).state <;> simp only [setRecord_setIo, enterFree_setIo, requestPass_setIo]
  | readDraw i => rfl
  | scanDraws condition value => rfl
  | setCap e0 => simp only [perform, performSetCap, setIo_engine, setEngine_setIo, requestPass_setIo]
  | readPlant => rfl
  | setChannel ch enabled capacity =>
    simp only [perform, performSetChannel, setIo_channel]
    by_cases h : (s.channel ch).owner.isSome = true
    · simp only [h, ↓reduceIte]
    · cases enabled
      · simp only [h, setChannel_setIo, dropReply_setIo, requestPass_setIo, Bool.false_eq_true, ↓reduceIte]
      · simp only [h, setChannel_setIo, requestPass_setIo, Bool.false_eq_true, ↓reduceIte]
  | rearmChannel ch =>
    simp only [perform, performRearm, setIo_channel]
    by_cases h : (s.channel ch).condition = .tripped <;>
      simp only [h, ↓reduceIte, setChannel_setIo, requestPass_setIo]
  | readChannel ch => rfl
  | readLine n =>
    simp only [perform, performReadLine]
    split <;> rfl
  | loadProfile index q =>
    simp only [perform, performLoadProfile]
    have h : (s.setIo p b).profileBusy index = s.profileBusy index := rfl
    rw [h]
    split <;> rfl
  | readProfile index => rfl
  | configureGrid g => rfl
  | configureTiming x => rfl
  | readGrid view => rfl
  | resume =>
    simp only [perform, performResume, setIo_seq]
    by_cases h : s.seq.state = .latched
    · simp only [h, ↓reduceIte]
      refine congrArg (fun t => (t, doneBytes false [])) ?_
      exact requestPass_setIo (s.setSeq _).enterRestoring p b
    · simp only [h, ↓reduceIte]
  | senseAttention =>
    simp only [perform, performSense]
    have h : (s.setIo p b).qualifying = s.qualifying := rfl
    rw [h]
    cases s.qualifying <;> rfl
  | endService n => rfl
  | setAttentionMask mask => rfl
  | readFaultBank n => rfl
  | clearFaultBank n => rfl

end Sys2Proof.Machine
end

