-- ==== Sys2Proof/Laws/Send.lean ====
section
/-! SUPPORT. A command sent whole to a ready port: the bytes taken one by one leave exactly the code and the parameters, and the
last of them begins EXECUTION (R149 to R151). -/

namespace Sys2Proof.Machine

/-- The port with a command's code and some of its parameter bytes taken. -/
def State.loaded (s : State) (c : CmdCode) (ps : List Byte) (expected : Nat) : State :=
  s.setIo { s.port with slip := false, code := some c, params := ps, expected := expected } 0x00

/-- R149, R150: whether a list of parameter bytes is all a command takes. -/
def paramsWhole (c : CmdCode) (ps : List Byte) : Prop :=
  if c = .openDraw then
    ∃ n : Byte, ps[11]? = some n ∧ 1 ≤ n.toNat ∧ n.toNat ≤ 4 ∧ ps.length = 12 + 2 * n.toNat
  else ps.length = c.paramCount

theorem codeOf_byte (c : CmdCode) : codeOf c.byte = some c := by cases c <;> decide

theorem transact_loaded {s : State} (c : CmdCode) (qs : List Byte) (e : Nat) (hr : s.ready) (b : Byte) :
    ((s.loaded c qs e).transact 0x00 fun u => u.putByte b false) = ((s.loaded c qs e).putParam c b false).setSdo 0x00 := by
  have h0 : (s.loaded c qs e).attends := hr.1
  have h1 : (s.loaded c qs e).port.phase = .command := hr.2.1
  have h2 : (s.loaded c qs e).port.code = some c := rfl
  rw [transact_attends h0]
  simp only [State.putByte, h1, h2]

/-- R149: a parameter byte short of the expected count is stored. -/
theorem putByte_param {s : State} {c : CmdCode} {qs : List Byte} {e : Nat} (hr : s.ready) (b : Byte)
    (h12 : ¬(c = .openDraw ∧ qs.length = 11)) (he : qs.length + 1 ≠ e) :
    ((s.loaded c qs e).transact 0x00 fun u => u.putByte b false) = s.loaded c (qs ++ [b]) e := by
  have h12' : ¬(c = .openDraw ∧ ((s.loaded c qs e).port.params ++ [b]).length = 12) := by
    rintro ⟨hc, hq⟩
    exact h12 ⟨hc, by simpa [State.loaded, State.setIo] using hq⟩
  have he' : ¬((s.loaded c qs e).port.params ++ [b]).length = (s.loaded c qs e).port.expected := by
    simpa [State.loaded, State.setIo] using he
  rw [transact_loaded c qs e hr, State.putParam, if_neg h12', if_neg he']
  rfl

/-- R149: the parameter byte that completes the expected count begins EXECUTION. -/
theorem putByte_last {s : State} {c : CmdCode} {qs : List Byte} {e : Nat} (hr : s.ready) (b : Byte)
    (h12 : ¬(c = .openDraw ∧ qs.length = 11)) (he : qs.length + 1 = e) :
    ((s.loaded c qs e).transact 0x00 fun u => u.putByte b false)
      = ((s.loaded c (qs ++ [b]) e).beginExecution c (qs ++ [b]) false).setSdo 0x00 := by
  have h12' : ¬(c = .openDraw ∧ ((s.loaded c qs e).port.params ++ [b]).length = 12) := by
    rintro ⟨hc, hq⟩
    exact h12 ⟨hc, by simpa [State.loaded, State.setIo] using hq⟩
  have he' : ((s.loaded c qs e).port.params ++ [b]).length = (s.loaded c qs e).port.expected := by
    simpa [State.loaded, State.setIo] using he
  rw [transact_loaded c qs e hr, State.putParam, if_neg h12', if_pos he']
  rfl

/-- R150: the twelfth byte of OPEN DRAW sets the expected count. -/
theorem putByte_count {s : State} {qs : List Byte} {e : Nat} (hr : s.ready) (b : Byte) (hl : qs.length = 11)
    (h1 : 1 ≤ b.toNat) (h4 : b.toNat ≤ 4) :
    ((s.loaded .openDraw qs e).transact 0x00 fun u => u.putByte b false) = s.loaded .openDraw (qs ++ [b]) (12 + 2 * b.toNat) := by
  have h12 : CmdCode.openDraw = .openDraw ∧ ((s.loaded .openDraw qs e).port.params ++ [b]).length = 12 :=
    ⟨rfl, by simp [State.loaded, State.setIo, hl]⟩
  rw [transact_loaded .openDraw qs e hr, State.putParam, if_pos h12, if_pos ⟨h1, h4⟩]
  rfl

/-- R150: a twelfth byte of OPEN DRAW outside 1 to 4 ends the command. -/
theorem putByte_badCount {s : State} {qs : List Byte} {e : Nat} (hr : s.ready) (b : Byte) (hl : qs.length = 11)
    (hb : ¬(1 ≤ b.toNat ∧ b.toNat ≤ 4)) :
    ((s.loaded .openDraw qs e).transact 0x00 fun u => u.putByte b false)
      = s.setIo { phase := .result, slip := false, code := none, params := [], expected := 0, waiting := none,
                  result := invalidBytes, readPos := 0 } 0x00 := by
  have h12 : CmdCode.openDraw = .openDraw ∧ ((s.loaded .openDraw qs e).port.params ++ [b]).length = 12 :=
    ⟨rfl, by simp [State.loaded, State.setIo, hl]⟩
  rw [transact_loaded .openDraw qs e hr, State.putParam, if_pos h12, if_neg hb]
  rfl

/-- A run of parameter bytes short of the expected count is stored. -/
theorem putAll_params {s : State} {c : CmdCode} {e : Nat} (hr : s.ready) (bs : List Byte) :
    ∀ qs : List Byte, (c = .openDraw → qs.length + bs.length ≤ 11 ∨ 12 ≤ qs.length) → qs.length + bs.length < e →
      (s.loaded c qs e).putAll bs = s.loaded c (qs ++ bs) e := by
  induction bs with
  | nil => intro qs _ _; simp [State.putAll]
  | cons b bs ih =>
    intro qs h12 he
    simp only [List.length_cons] at h12 he
    have hb := putByte_param (c := c) (qs := qs) (e := e) hr b (by rintro ⟨hc, hq⟩; have := h12 hc; omega) (by omega)
    have := ih (qs ++ [b]) (by intro hc; have := h12 hc; simp; omega) (by simp; omega)
    simp only [State.putAll, List.foldl_cons] at this ⊢
    rw [hb, this]; simp

/-- A run of parameter bytes that completes the expected count begins EXECUTION with all of them. -/
theorem putAll_complete {s : State} {c : CmdCode} {e : Nat} (hr : s.ready) (bs qs : List Byte)
    (h12 : c = .openDraw → 12 ≤ qs.length) (he : qs.length + bs.length = e) (hb : bs ≠ []) :
    (s.loaded c qs e).putAll bs = ((s.loaded c (qs ++ bs) e).beginExecution c (qs ++ bs) false).setSdo 0x00 := by
  obtain ⟨ds, b, rfl⟩ : ∃ ds b, bs = ds ++ [b] := ⟨bs.dropLast, bs.getLast hb, (List.dropLast_append_getLast hb).symm⟩
  simp only [List.length_append, List.length_singleton] at he
  have h1 := putAll_params (c := c) (e := e) hr ds qs (fun hc => .inr (h12 hc)) (by omega)
  have h2 := putByte_last (c := c) (qs := qs ++ ds) (e := e) hr b
    (by rintro ⟨hc, hq⟩; have := h12 hc; simp at hq; omega) (by simp; omega)
  simp only [State.putAll, List.foldl_append] at h1 ⊢
  rw [h1]
  simpa using h2

/-! ## EXECUTION -/

/-- R151, R154: taking a command leaves its effect, the port in RESULT with the command's result, and the rest of the port. -/
theorem takeCmd_setIo (s : State) (p : Port) (b : Byte) (c : Cmd) :
    (s.setIo p b).takeCmd c
      = (perform c s).1.setIo { p with phase := .result, waiting := none, result := (perform c s).2, readPos := 0 } b := by
  rw [State.takeCmd, perform_setIo]
  rfl

/-- R151: EXECUTION of parameter bytes that fail their range checks. -/
theorem beginExecution_invalid (s : State) (p : Port) (b : Byte) (c : CmdCode) (ps : List Byte) (h : parseCmd c ps = none) :
    (s.setIo p b).beginExecution c ps false
      = s.setIo { p with phase := .result, waiting := none, result := invalidBytes, readPos := 0 } b := by
  rw [State.beginExecution, h]
  rfl

theorem startCmd_after (s : State) (c : Cmd) : s.startCmd c false = s.takeOrWait c := rfl

/-- R152: EXECUTION that comes while no pass is just starting finds the Engine as it stands, whatever order the outside gives it. -/
theorem startCmd_notStarting {s : State} (h : s.passStarting = false) (c : Cmd) (first : Bool) :
    s.startCmd c first = s.takeOrWait c := by
  simp [State.startCmd, h]

/-- R152: a command that does not wait is taken at once, whatever order the outside gives it. -/
theorem startCmd_notWaiting {c : Cmd} (h : c.waits = false) (s : State) (first : Bool) : s.startCmd c first = s.takeCmd c := by
  simp [State.startCmd, State.takeOrWait, h]

/-- R152: when a pass is just starting. -/
theorem passStarting_iff (s : State) :
    s.passStarting = true ↔ s.engine.pass = .running s.snapshot ∧ s.engine.rerun = false := by
  unfold State.passStarting
  split <;> simp_all

/-- R152, R44: all that a command taken before the start of a pass does: its effect on an idle Engine, a pass begun by its own request
or by the other event's, whose snapshot is taken then, and the rerun flag set where both came. -/
theorem takeBeforeStart_eq {s u : State} {c : Cmd} {out : List Byte}
    (h : perform c (s.setEngine { s.engine with pass := .idle }) = (u, out)) :
    s.takeBeforeStart c = match u.engine.pass with
      | .idle => (u.complete out).startPass
      | _ => (u.complete out).setEngine { u.engine with rerun := true } := by
  simp only [State.takeBeforeStart, State.takeCmd, h]
  rfl

/-- R151: EXECUTION of a command that is taken at once. -/
theorem beginExecution_taken (s : State) (p : Port) (b : Byte) (c : CmdCode) (ps : List Byte) (cmd : Cmd)
    (h : parseCmd c ps = some cmd) (hw : (cmd.waits && s.engine.pass.inFlight) = false) :
    (s.setIo p b).beginExecution c ps false
      = (perform cmd s).1.setIo { p with phase := .result, waiting := none, result := (perform cmd s).2, readPos := 0 } b := by
  have hw' : ¬((cmd.waits && (s.setIo p b).engine.pass.inFlight) = true) := by simp [hw]
  rw [State.beginExecution, h]
  show (s.setIo p b).startCmd cmd false = _
  rw [startCmd_after, State.takeOrWait, if_neg hw', takeCmd_setIo]

/-- R152, R47: EXECUTION of a command that has to wait; a window open now will not take it. -/
theorem beginExecution_waits (s : State) (p : Port) (b : Byte) (c : CmdCode) (ps : List Byte) (cmd : Cmd)
    (h : parseCmd c ps = some cmd) (hw : (cmd.waits && s.engine.pass.inFlight) = true) :
    (s.setIo p b).beginExecution c ps false
      = (match s.engine.pass with
          | .window _ => s.setEngine { s.engine with pass := .window false }
          | _ => s).setIo { p with phase := .execution, waiting := some cmd } b := by
  have hw' : (cmd.waits && (s.setIo p b).engine.pass.inFlight) = true := hw
  rw [State.beginExecution, h]
  show (s.setIo p b).startCmd cmd false = _
  rw [startCmd_after, State.takeOrWait, if_pos hw', setIo_engine]
  cases s.engine.pass <;> rfl

/-- The byte last shifted out does not bear on EXECUTION. -/
theorem beginExecution_setSdo (s : State) (b : Byte) (c : CmdCode) (ps : List Byte) :
    (s.setSdo b).beginExecution c ps false = (s.beginExecution c ps false).setSdo b := by
  show (s.setIo s.port b).beginExecution c ps false = ((s.setIo s.port s.sdo).beginExecution c ps false).setSdo b
  cases h : parseCmd c ps with
  | none => rw [beginExecution_invalid _ _ _ _ _ h, beginExecution_invalid _ _ _ _ _ h]; rfl
  | some cmd =>
    cases hw : cmd.waits && s.engine.pass.inFlight with
    | true => rw [beginExecution_waits _ _ _ _ _ _ h hw, beginExecution_waits _ _ _ _ _ _ h hw]; rfl
    | false => rw [beginExecution_taken _ _ _ _ _ _ h hw, beginExecution_taken _ _ _ _ _ _ h hw]; rfl

/-! ## A whole command -/

/-- R149: a known code put to a ready port is stored, or begins EXECUTION where it takes no parameters. -/
theorem putByte_code {s : State} (hr : s.ready) (c : CmdCode) :
    (s.transact 0x00 fun u => u.putByte c.byte false)
      = if c.paramCount = 0 then (s.loaded c [] 0).beginExecution c [] false else s.loaded c [] c.paramCount := by
  have h1 : s.port.phase = .command := hr.2.1
  have h2 : s.port.code = none := hr.2.2
  have h3 : (s.transact 0x00 fun u => u.putByte c.byte false) = (s.putCode c.byte).setSdo 0x00 := by
    rw [transact_attends hr.1]
    simp only [State.putByte, h1, h2]
  rw [h3, State.putCode, codeOf_byte]
  by_cases h : c.paramCount = 0
  · simp only [h, ↓reduceIte]
    exact (beginExecution_setSdo _ _ _ _).symm
  · simp only [h, ↓reduceIte]
    rfl

/-- R149 to R151: a command sent whole to a ready port begins EXECUTION with exactly its parameter bytes. -/
theorem send_whole {s : State} (hr : s.ready) (c : CmdCode) (ps : List Byte) (h : paramsWhole c ps) :
    s.send c ps = ((s.loaded c ps ps.length).beginExecution c ps false).setSdo 0x00 := by
  have hput : s.send c ps = (s.transact 0x00 fun u => u.putByte c.byte false).putAll ps := rfl
  rw [hput, putByte_code hr]
  by_cases hc : c = .openDraw
  · subst hc
    simp only [paramsWhole, ↓reduceIte] at h
    obtain ⟨n, hn, h1, h4, hl⟩ := h
    have hsplit : ps = ps.take 11 ++ n :: ps.drop 12 := by
      have h11 : 11 < ps.length := by omega
      have hg : ps[11] = n := by rw [List.getElem?_eq_getElem h11] at hn; exact Option.some.inj hn
      rw [← hg, ← List.drop_eq_getElem_cons h11, List.take_append_drop]
    have hq : (ps.take 11).length = 11 := by simp; omega
    have hd : (ps.drop 12).length = 2 * n.toNat := by simp; omega
    have e1 := putAll_params (c := .openDraw) (e := 12) hr (ps.take 11) [] (by simp) (by simp)
    have e2 := putByte_count (e := 12) hr n hq h1 h4
    have e3 := putAll_complete (c := .openDraw) (e := 12 + 2 * n.toNat) hr (ps.drop 12) (ps.take 11 ++ [n])
      (by simp; omega) (by rw [List.length_append, hq, hd]; simp) (by intro hz; rw [hz] at hd; simp at hd; omega)
    have hcount : CmdCode.openDraw.paramCount = 12 := rfl
    rw [hcount, if_neg (by decide)]
    conv_lhs => rw [hsplit]
    simp only [State.putAll, List.foldl_append, List.foldl_cons, List.nil_append] at e1 e2 e3 ⊢
    rw [e1, e2, e3, List.append_assoc, List.singleton_append, ← hsplit, hl]
  · simp only [paramsWhole, hc, ↓reduceIte] at h
    by_cases h0 : c.paramCount = 0
    · have : ps = [] := List.eq_nil_of_length_eq_zero (by omega)
      subst this
      rw [if_pos h0]
      rw [← beginExecution_setSdo]
      rfl
    · rw [if_neg h0]
      have := putAll_complete (c := c) (e := c.paramCount) hr ps [] (fun hx => absurd hx hc) (by simpa using h)
        (by intro hz; rw [hz] at h; simp at h; omega)
      rw [this, h]
      rfl

/-- R151, R154: a command sent whole to a ready port whose bytes fail a range check completes INVALID and does nothing else. -/
theorem send_invalid {s : State} (hr : s.ready) (c : CmdCode) (ps : List Byte) (h : paramsWhole c ps)
    (hp : parseCmd c ps = none) : s.send c ps = s.answered c ps invalidBytes := by
  rw [send_whole hr c ps h, State.loaded, beginExecution_invalid _ _ _ _ _ hp]
  obtain ⟨-, h1, h2⟩ := hr
  rfl

/-- R151, R154: a command sent whole to a ready port and taken at once has its effect on the state as it stood, and its result
is offered. -/
theorem send_taken {s : State} (hr : s.ready) (c : CmdCode) (ps : List Byte) (h : paramsWhole c ps) (cmd : Cmd)
    (hp : parseCmd c ps = some cmd) (hw : (cmd.waits && s.engine.pass.inFlight) = false) :
    s.send c ps = (perform cmd s).1.answered c ps (perform cmd s).2 := by
  rw [send_whole hr c ps h, State.loaded, beginExecution_taken _ _ _ _ _ _ hp hw]
  rfl

/-- R152: a command sent whole to a ready port that has to wait is held, and nothing else changes. -/
theorem send_waits {s : State} (hr : s.ready) (c : CmdCode) (ps : List Byte) (h : paramsWhole c ps) (cmd : Cmd)
    (hp : parseCmd c ps = some cmd) (hw : (cmd.waits && s.engine.pass.inFlight) = true) :
    s.send c ps = (match s.engine.pass with
      | .window _ => s.setEngine { s.engine with pass := .window false }
      | _ => s).holding c ps cmd := by
  rw [send_whole hr c ps h, State.loaded, beginExecution_waits _ _ _ _ _ _ hp hw]
  cases s.engine.pass <;> rfl

end Sys2Proof.Machine
end

