-- ==== Sys2Proof/Laws/Commands.lean ====
section
/-! SUPPORT. The 23 supervisor commands as rows of the table: each is its code and its parameter bytes sent whole, and a command
that is taken does what `perform` says. -/

namespace Sys2Proof.Machine

/-- Every command row of the table sends its code and parameter bytes. -/
theorem exec_sent {c : Instr} {code : CmdCode} {ps : List Byte} (h : sentBytes c = some (code, ps)) (s : State) :
    exec c s = .next (s.send code ps) := by
  cases c <;> first
    | (simp only [sentBytes, Option.some.injEq, Prod.mk.injEq] at h; obtain ⟨rfl, rfl⟩ := h
       simp only [exec, execOpenDraw, execSetTarget, execAmendDraw, execRetireDraw, execReadDraw, execScanDraws, execSetCap,
         execReadPlant, execSetChannel, execRearmChannel, execReadChannel, execReadLine, execLoadProfile, execReadProfile,
         execConfigureGrid, execConfigureTiming, execReadGrid, execResume, execSenseAttention, execEndService,
         execSetAttentionMask, execReadFaultBank, execClearFaultBank])
    | (simp only [sentBytes, reduceCtorEq] at h)

/-- R150, R159: a command other than OPEN DRAW whose bytes are not its expected count in number fails. -/
theorem parse_length {code : CmdCode} (hc : code ≠ .openDraw) : ∀ {ps : List Byte}, ps.length ≠ code.paramCount →
    parseCmd code ps = none := by
  intro ps h
  cases code
  case openDraw => exact absurd rfl hc
  case setTarget => rcases ps with _ | ⟨_, _ | ⟨_, _ | ⟨_, _ | ⟨_, _⟩⟩⟩⟩ <;> first | rfl | exact absurd rfl h
  case amendDraw => rcases ps with _ | ⟨_, _ | ⟨_, _ | ⟨_, _ | ⟨_, _ | ⟨_, _⟩⟩⟩⟩⟩ <;> first | rfl | exact absurd rfl h
  case retireDraw => rcases ps with _ | ⟨_, _ | ⟨_, _⟩⟩ <;> first | rfl | exact absurd rfl h
  case readDraw => rcases ps with _ | ⟨_, _ | ⟨_, _⟩⟩ <;> first | rfl | exact absurd rfl h
  case scanDraws => rcases ps with _ | ⟨_, _ | ⟨_, _ | ⟨_, _ | ⟨_, _⟩⟩⟩⟩ <;> first | rfl | exact absurd rfl h
  case setCap => rcases ps with _ | ⟨_, _ | ⟨_, _ | ⟨_, _⟩⟩⟩ <;> first | rfl | exact absurd rfl h
  case readPlant => rcases ps with _ | ⟨_, _⟩ <;> first | rfl | exact absurd rfl h
  case setChannel => rcases ps with _ | ⟨_, _ | ⟨_, _ | ⟨_, _ | ⟨_, _ | ⟨_, _⟩⟩⟩⟩⟩ <;> first | rfl | exact absurd rfl h
  case rearmChannel => rcases ps with _ | ⟨_, _ | ⟨_, _⟩⟩ <;> first | rfl | exact absurd rfl h
  case readChannel => rcases ps with _ | ⟨_, _ | ⟨_, _⟩⟩ <;> first | rfl | exact absurd rfl h
  case readLine => rcases ps with _ | ⟨_, _ | ⟨_, _⟩⟩ <;> first | rfl | exact absurd rfl h
  case loadProfile => rcases ps with _ | ⟨_, _ | ⟨_, _ | ⟨_, _ | ⟨_, _ | ⟨_, _ | ⟨_, _ | ⟨_, _ | ⟨_, _ | ⟨_, _ | ⟨_, _ | ⟨_, _ | ⟨_, _ | ⟨_, _ | ⟨_, _⟩⟩⟩⟩⟩⟩⟩⟩⟩⟩⟩⟩⟩⟩ <;> first | rfl | exact absurd rfl h
  case readProfile => rcases ps with _ | ⟨_, _ | ⟨_, _⟩⟩ <;> first | rfl | exact absurd rfl h
  case configureGrid => rcases ps with _ | ⟨_, _ | ⟨_, _ | ⟨_, _ | ⟨_, _ | ⟨_, _ | ⟨_, _ | ⟨_, _ | ⟨_, _ | ⟨_, _ | ⟨_, _ | ⟨_, _ | ⟨_, _ | ⟨_, _ | ⟨_, _ | ⟨_, _ | ⟨_, _ | ⟨_, _ | ⟨_, _ | ⟨_, _ | ⟨_, _⟩⟩⟩⟩⟩⟩⟩⟩⟩⟩⟩⟩⟩⟩⟩⟩⟩⟩⟩⟩ <;> first | rfl | exact absurd rfl h
  case configureTiming => rcases ps with _ | ⟨_, _ | ⟨_, _ | ⟨_, _ | ⟨_, _ | ⟨_, _ | ⟨_, _ | ⟨_, _ | ⟨_, _ | ⟨_, _⟩⟩⟩⟩⟩⟩⟩⟩⟩ <;> first | rfl | exact absurd rfl h
  case readGrid => rcases ps with _ | ⟨_, _ | ⟨_, _⟩⟩ <;> first | rfl | exact absurd rfl h
  case resume => rcases ps with _ | ⟨_, _⟩ <;> first | rfl | exact absurd rfl h
  case senseAttention => rcases ps with _ | ⟨_, _⟩ <;> first | rfl | exact absurd rfl h
  case endService => rcases ps with _ | ⟨_, _ | ⟨_, _⟩⟩ <;> first | rfl | exact absurd rfl h
  case setAttentionMask => rcases ps with _ | ⟨_, _ | ⟨_, _⟩⟩ <;> first | rfl | exact absurd rfl h
  case readFaultBank => rcases ps with _ | ⟨_, _ | ⟨_, _⟩⟩ <;> first | rfl | exact absurd rfl h
  case clearFaultBank => rcases ps with _ | ⟨_, _ | ⟨_, _⟩⟩ <;> first | rfl | exact absurd rfl h

/-- R150, R159: a list of bytes that passes the range checks of a code is all the command takes. -/
theorem paramsWhole_of_parse {code : CmdCode} {ps : List Byte} {cmd : Cmd} (h : parseCmd code ps = some cmd) :
    paramsWhole code ps := by
  by_cases hc : code = .openDraw
  · subst hc
    rcases ps with _ | ⟨_, _ | ⟨_, _ | ⟨_, _ | ⟨_, _ | ⟨_, _ | ⟨_, _ | ⟨_, _ | ⟨_, _ | ⟨_, _ | ⟨_, _ | ⟨_, _ | ⟨_, _⟩⟩⟩⟩⟩⟩⟩⟩⟩⟩⟩⟩ <;> try (exact absurd h (by intro h; cases h))
    rename_i n fs
    have h' : (if 1 ≤ n.toNat ∧ n.toNat ≤ 4 ∧ fs.length = 2 * n.toNat then _ else none) = some cmd := h
    split at h'
    · next hn => exact ⟨n, rfl, hn.1, hn.2.1, by simp [hn.2.2]; omega⟩
    · cases h'
  · simp only [paramsWhole, hc, ↓reduceIte]
    by_contra hl
    rw [parse_length hc hl] at h
    cases h

/-- R150: a command row other than OPEN DRAW sends all the command takes. -/
theorem paramsWhole_of_sent {c : Instr} {code : CmdCode} {ps : List Byte} (h : sentBytes c = some (code, ps))
    (hc : code ≠ .openDraw) : paramsWhole code ps := by
  cases c <;> first
    | (simp only [sentBytes, Option.some.injEq, Prod.mk.injEq] at h; obtain ⟨rfl, rfl⟩ := h;
       first | (exact absurd rfl hc) | (simp [paramsWhole, CmdCode.paramCount, wordBytes, bytes2]))
    | (simp [sentBytes] at h)

/-- R151, R154: a command row in range, sent to a ready port and taken at once. -/
theorem exec_taken {c : Instr} {code : CmdCode} {ps : List Byte} {cmd : Cmd} {s : State} (hr : s.ready)
    (h : sentBytes c = some (code, ps)) (hp : parseCmd code ps = some cmd)
    (hw : (cmd.waits && s.engine.pass.inFlight) = false) :
    exec c s = .next ((perform cmd s).1.answered code ps (perform cmd s).2) := by
  rw [exec_sent h, send_taken hr code ps (paramsWhole_of_parse hp) cmd hp hw]

/-- R151: with no pass in flight every command in range is taken at once. -/
theorem exec_taken_idle {c : Instr} {code : CmdCode} {ps : List Byte} {cmd : Cmd} {s : State} (hr : s.ready) (hi : s.idle)
    (h : sentBytes c = some (code, ps)) (hp : parseCmd code ps = some cmd) :
    exec c s = .next ((perform cmd s).1.answered code ps (perform cmd s).2) :=
  exec_taken hr h hp (by simp [hi, Pass.inFlight])

end Sys2Proof.Machine
end

