-- ==== Sys2Proof/Laws/Feeders.lean ====
section
/-! SUPPORT. What a change made in turn to the channels of a feeder list does: to each channel of the list, and to nothing else. -/

namespace Sys2Proof.Machine

/-- Only channels change. -/
theorem updateFeeders_eq (s : State) (fs : List Feeder) (g : Channel → Channel) :
    s.updateFeeders fs g = { s with channels := (s.updateFeeders fs g).channels } := by
  induction fs generalizing s with
  | nil => rfl
  | cons f fs ih =>
    have := ih (s.setChannel f.channel (g (s.channel f.channel)))
    simp only [State.updateFeeders, List.foldl_cons] at this ⊢
    rw [this]; rfl

@[simp] theorem updateFeeders_record (s : State) (fs : List Feeder) (g : Channel → Channel) (i : Slot) :
    (s.updateFeeders fs g).record i = s.record i := by rw [updateFeeders_eq]; rfl

/-- A channel outside the list is as it was. -/
theorem updateFeeders_other (s : State) (fs : List Feeder) (g : Channel → Channel) (c : Chan)
    (h : ∀ f ∈ fs, f.channel ≠ c) : (s.updateFeeders fs g).channel c = s.channel c := by
  induction fs generalizing s with
  | nil => rfl
  | cons f fs ih =>
    have := ih (s.setChannel f.channel (g (s.channel f.channel))) fun x hx => h x (by simp [hx])
    simp only [State.updateFeeders, List.foldl_cons] at this ⊢
    rw [this]
    exact channel_setChannel_ne _ _ (h f (by simp))

/-- A channel of the list is changed, once or where changing it again makes no difference. -/
theorem updateFeeders_mem (s : State) (fs : List Feeder) (g : Channel → Channel) (hg : ∀ x, g (g x) = g x) (c : Chan)
    (h : ∃ f ∈ fs, f.channel = c) : (s.updateFeeders fs g).channel c = g (s.channel c) := by
  induction fs generalizing s with
  | nil => simp at h
  | cons f fs ih =>
    simp only [State.updateFeeders, List.foldl_cons]
    by_cases hm : ∃ x ∈ fs, x.channel = c
    · have := ih (s.setChannel f.channel (g (s.channel f.channel))) hm
      simp only [State.updateFeeders] at this
      rw [this]
      by_cases hc : f.channel = c
      · subst hc; rw [channel_setChannel_self, hg]
      · rw [channel_setChannel_ne _ _ hc]
    · have hc : f.channel = c := by
        obtain ⟨x, hx, rfl⟩ := h
        rcases List.mem_cons.mp hx with rfl | hx
        · rfl
        · exact absurd ⟨x, hx, rfl⟩ hm
      have := updateFeeders_other (s.setChannel f.channel (g (s.channel f.channel))) fs g c
        fun x hx hxc => hm ⟨x, hx, hxc⟩
      simp only [State.updateFeeders] at this
      rw [this]; subst hc; exact channel_setChannel_self _ _ _

end Sys2Proof.Machine
end

