-- ==== Sys2Proof/Laws/Ops.lean ====
section
/-! SUPPORT. What each shared operation can do, said once: which fields it touches, and what it makes of the entries it
touches. -/

namespace Sys2Proof.Machine

/-! ## Pass requests (R44, R50) -/

theorem requestPass_idle {s : State} (h : s.engine.pass = .idle) : s.requestPass = s.startPass := by
  simp only [State.requestPass, h]

theorem requestPass_flying {s : State} (h : s.engine.pass ≠ .idle) :
    s.requestPass = s.setEngine { s.engine with rerun := true } := by
  unfold State.requestPass
  cases hp : s.engine.pass with
  | idle => exact absurd hp h
  | running n => rfl
  | window d => rfl

/-- A pass request touches the Engine's own items alone. -/
theorem requestPass_eq (s : State) : s.requestPass = s.setEngine s.requestPass.engine := by
  by_cases h : s.engine.pass = .idle
  · rw [requestPass_idle h]; rfl
  · rw [requestPass_flying h]; rfl

theorem requestIf_eq (s : State) (b : Bool) : s.requestIf b = s.setEngine (s.requestIf b).engine := by
  cases b
  · rfl
  · exact requestPass_eq s

theorem apply_eq (s : State) (r : Request) : s.apply r = s.setEngine (s.apply r).engine := by
  cases r
  · rfl
  · exact requestPass_eq s
  · rfl

@[simp] theorem requestPass_table (s : State) : s.requestPass.table = s.table := by rw [requestPass_eq]; rfl
@[simp] theorem requestPass_record (s : State) (i : Slot) : s.requestPass.record i = s.record i := by rw [requestPass_eq]; rfl
@[simp] theorem requestPass_channels (s : State) : s.requestPass.channels = s.channels := by rw [requestPass_eq]; rfl
@[simp] theorem requestPass_channel (s : State) (c : Chan) : s.requestPass.channel c = s.channel c := by
  rw [requestPass_eq]; rfl
@[simp] theorem requestPass_seq (s : State) : s.requestPass.seq = s.seq := by rw [requestPass_eq]; rfl
@[simp] theorem requestPass_port (s : State) : s.requestPass.port = s.port := by rw [requestPass_eq]; rfl
@[simp] theorem requestPass_attention (s : State) : s.requestPass.attention = s.attention := by rw [requestPass_eq]; rfl
@[simp] theorem requestPass_banks (s : State) : s.requestPass.banks = s.banks := by rw [requestPass_eq]; rfl
@[simp] theorem requestPass_timing (s : State) : s.requestPass.timing = s.timing := by rw [requestPass_eq]; rfl
@[simp] theorem requestPass_ramp (s : State) : s.requestPass.ramp = s.ramp := by rw [requestPass_eq]; rfl
@[simp] theorem requestPass_grid (s : State) : s.requestPass.grid = s.grid := by rw [requestPass_eq]; rfl
@[simp] theorem requestPass_lines (s : State) : s.requestPass.lines = s.lines := by rw [requestPass_eq]; rfl
@[simp] theorem requestPass_source (s : State) (n : SourceNo) : s.requestPass.source n = s.source n := by
  rw [requestPass_eq]; rfl
@[simp] theorem requestPass_bank (s : State) (b : BankNo) : s.requestPass.bank b = s.bank b := by rw [requestPass_eq]; rfl
@[simp] theorem requestPass_resetState (s : State) : s.requestPass.resetState = s.resetState := by rw [requestPass_eq]; rfl
@[simp] theorem requestPass_pending (s : State) : s.requestPass.pending = s.pending := by rw [requestPass_eq]; rfl

/-- R45: the snapshot holds what it takes of each record. -/
theorem snapshot_record (s : State) (i : Slot) : (s.snapshot.records).get i = s.snapRecord i := by
  have : slots = List.finRange 24 := by decide
  simp [State.snapshot, Vector.get_eq_getElem, this]

/-! ## Attention occurrences (R186, R187) -/

theorem mem_addMember (m x : Nat) (xs : List Nat) : x ∈ addMember m xs ↔ x ∈ xs ∨ x = m := by
  induction xs with
  | nil => simp [addMember]
  | cons y ys ih =>
    unfold addMember
    split
    · simp only [List.mem_cons]; tauto
    · split
      · next h => subst h; simp only [List.mem_cons]; tauto
      · simp only [List.mem_cons, ih]; tauto

theorem addMember_sorted (m : Nat) (xs : List Nat) (h : xs.Pairwise (· < ·)) : (addMember m xs).Pairwise (· < ·) := by
  induction xs with
  | nil => simp [addMember]
  | cons y ys ih =>
    rw [List.pairwise_cons] at h
    unfold addMember
    split
    · next hm =>
      refine List.pairwise_cons.mpr ⟨fun z hz => ?_, List.pairwise_cons.mpr h⟩
      rcases List.mem_cons.mp hz with rfl | hz
      · exact hm
      · exact hm.trans (h.1 z hz)
    · split
      · exact List.pairwise_cons.mpr h
      · refine List.pairwise_cons.mpr ⟨fun z hz => ?_, ih h.2⟩
        rcases (mem_addMember m z ys).mp hz with hz | rfl
        · exact h.1 z hz
        · omega

theorem addMember_ne_nil (m : Nat) (xs : List Nat) : addMember m xs ≠ [] := by
  intro h
  have := (mem_addMember m m xs).mpr (.inr rfl)
  rw [h] at this
  cases this

theorem addMember_of_mem (m : Nat) (xs : List Nat) (h : xs.Pairwise (· < ·)) (hm : m ∈ xs) : addMember m xs = xs := by
  induction xs with
  | nil => cases hm
  | cons y ys ih =>
    rw [List.pairwise_cons] at h
    unfold addMember
    rcases List.mem_cons.mp hm with rfl | hm
    · simp
    · have := h.1 m hm
      rw [if_neg (by omega), if_neg (by omega), ih h.2 hm]

theorem occurMember_eq (s : State) (n : SourceNo) (m : Nat) :
    s.occurMember n m = { s with attention := (s.occurMember n m).attention } := rfl

theorem occur_eq (s : State) (n : SourceNo) : s.occur n = { s with attention := (s.occur n).attention } := rfl

theorem occurMember_source (s : State) (n k : SourceNo) (m : Nat) :
    (s.occurMember n m).source k
      = if n = k then { s.source k with ip := true, members := addMember m (s.source k).members } else s.source k := by
  by_cases h : n = k
  · subst h; simp [State.occurMember]
  · simp only [State.occurMember, h, ↓reduceIte]; exact source_setSource_ne _ _ h

theorem occur_source (s : State) (n k : SourceNo) :
    (s.occur n).source k = if n = k then { s.source k with ip := true } else s.source k := by
  by_cases h : n = k
  · subst h; simp [State.occur]
  · simp only [State.occur, h, ↓reduceIte]; exact source_setSource_ne _ _ h

/-! ## Captures (R194 to R198) -/

/-- A capture touches its bank and the attention sources. -/
theorem captureAs_eq (s : State) (x : FaultName) (k : Nat) (st : SeqState) :
    s.captureAs x k st = { s with banks := (s.captureAs x k st).banks, attention := (s.captureAs x k st).attention } := by
  unfold State.captureAs
  split <;> rfl

theorem captureAs_bank (s : State) (x : FaultName) (k : Nat) (st : SeqState) (b : BankNo) :
    (s.captureAs x k st).bank b = if x.bank = b then (s.bank b).take x k st else s.bank b := by
  have h : (s.captureAs x k st).bank b = (s.setBank x.bank ((s.bank x.bank).take x k st)).bank b := by
    unfold State.captureAs; split <;> rfl
  rw [h]
  by_cases hb : x.bank = b
  · subst hb; simp
  · simp only [hb, ↓reduceIte]; exact bank_setBank_ne _ _ hb

/-- R197: a capture raises FAULT with its bank as member, or no attention. -/
theorem captureAs_source (s : State) (x : FaultName) (k : Nat) (st : SeqState) (n : SourceNo) :
    (s.captureAs x k st).source n
      = if (s.bank x.bank).raises x = true ∧ n = srcFault then
          { s.source n with ip := true, members := addMember x.bank.val (s.source n).members }
        else s.source n := by
  unfold State.captureAs
  by_cases h : (s.bank x.bank).raises x = true
  · simp only [h, ↓reduceIte, true_and, occurMember_source, setBank_source]
    by_cases hn : srcFault = n
    · subst hn; simp
    · simp [hn, Ne.symm hn]
  · simp [h]

/-! ## Shares (R62 to R65) -/

/-- A change made in turn to the channels of a feeder list, each by its own function, touches channels alone. -/
theorem foldFeeders_eq (fs : List Feeder) (g : Feeder → Channel → Channel) (s : State) :
    fs.foldl (fun t f => t.setChannel f.channel (g f (t.channel f.channel))) s
      = { s with channels :=
          (fs.foldl (fun t f => t.setChannel f.channel (g f (t.channel f.channel))) s).channels } := by
  induction fs generalizing s with
  | nil => rfl
  | cons f fs ih =>
    have := ih (s.setChannel f.channel (g f (s.channel f.channel)))
    simp only [List.foldl_cons] at this ⊢
    rw [this]; rfl

theorem foldFeeders_other (fs : List Feeder) (g : Feeder → Channel → Channel) (s : State) (c : Chan)
    (h : ∀ f ∈ fs, f.channel ≠ c) :
    (fs.foldl (fun t f => t.setChannel f.channel (g f (t.channel f.channel))) s).channel c = s.channel c := by
  induction fs generalizing s with
  | nil => rfl
  | cons f fs ih =>
    simp only [List.foldl_cons]
    rw [ih _ fun x hx => h x (by simp [hx])]
    exact channel_setChannel_ne _ _ (h f (by simp))

/-- With no channel named twice each channel of the list is changed once, by its own function. -/
theorem foldFeeders_mem (fs : List Feeder) (g : Feeder → Channel → Channel) (s : State)
    (hn : (fs.map fun f => f.channel).Nodup) (f : Feeder) (hf : f ∈ fs) :
    (fs.foldl (fun t f => t.setChannel f.channel (g f (t.channel f.channel))) s).channel f.channel
      = g f (s.channel f.channel) := by
  induction fs generalizing s with
  | nil => cases hf
  | cons e fs ih =>
    simp only [List.map_cons, List.nodup_cons, List.mem_map, not_exists, not_and] at hn
    simp only [List.foldl_cons]
    rcases List.mem_cons.mp hf with rfl | hf
    · rw [foldFeeders_other _ _ _ _ fun x hx => hn.1 x hx]
      exact channel_setChannel_self _ _ _
    · rw [ih _ hn.2 hf, channel_setChannel_ne]
      exact fun h => hn.1 f hf h.symm

/-- R62: a re-split touches channels alone. -/
theorem reSplit_eq (s : State) (i : Slot) : s.reSplit i = { s with channels := (s.reSplit i).channels } :=
  foldFeeders_eq _ (fun f x => x.resplit (s.placement i) f.channel) s

theorem reSplit_other (s : State) (i : Slot) (c : Chan) (h : ∀ f ∈ (s.record i).feeders, f.channel ≠ c) :
    (s.reSplit i).channel c = s.channel c :=
  foldFeeders_other _ (fun f x => x.resplit (s.placement i) f.channel) s c h

theorem reSplit_mem (s : State) (i : Slot) (hn : ((s.record i).feeders.map fun f => f.channel).Nodup) (f : Feeder)
    (hf : f ∈ (s.record i).feeders) :
    (s.reSplit i).channel f.channel = (s.channel f.channel).resplit (s.placement i) f.channel :=
  foldFeeders_mem _ (fun f x => x.resplit (s.placement i) f.channel) s hn f hf

@[simp] theorem reSplit_record (s : State) (i j : Slot) : (s.reSplit i).record j = s.record j := by rw [reSplit_eq]; rfl

/-- Only the share of a channel changes in a re-split. -/
theorem resplit_share (ps : List (Chan × Nat)) (c : Chan) (x : Channel) :
    x.resplit ps c = { x with share := (x.resplit ps c).share } := by
  unfold Channel.resplit
  split <;> rfl

theorem noteArrival_eq (s : State) (i : Slot) (before : Nat) :
    s.noteArrival i before = { s with attention := (s.noteArrival i before).attention } := by
  unfold State.noteArrival
  dsimp only
  split <;> rfl

/-- R58, R74: moving a present touches the record, the shares of its feeders and ARRIVAL. -/
theorem movePresent_eq (s : State) (i : Slot) (p : Nat) :
    s.movePresent i p
      = { s.setRecord i { s.record i with present := p } with
          channels := (s.movePresent i p).channels, attention := (s.movePresent i p).attention } := by
  unfold State.movePresent
  dsimp only
  rw [noteArrival_eq, reSplit_eq]

theorem movePresent_record (s : State) (i j : Slot) (p : Nat) :
    (s.movePresent i p).record j = if i = j then { s.record i with present := p } else s.record j := by
  rw [movePresent_eq]
  exact record_setRecord s i j _

theorem zeroShares_eq (s : State) (i : Slot) : s.zeroShares i = { s with channels := (s.zeroShares i).channels } :=
  updateFeeders_eq s _ _

theorem zeroShares_mem (s : State) (i : Slot) (c : Chan) (h : ∃ f ∈ (s.record i).feeders, f.channel = c) :
    (s.zeroShares i).channel c = { s.channel c with share := 0, frozen := 0 } :=
  updateFeeders_mem s _ Channel.noShare (fun _ => rfl) c h

theorem zeroShares_other (s : State) (i : Slot) (c : Chan) (h : ∀ f ∈ (s.record i).feeders, f.channel ≠ c) :
    (s.zeroShares i).channel c = s.channel c :=
  updateFeeders_other s _ _ c h

/-- R57, R60, R68: the end of a descent touches the record and the shares of its feeders. -/
theorem endDescent_eq (s : State) (i : Slot) :
    s.endDescent i
      = { s.setRecord i { s.record i with present := 0, releaseTimer := some s.timing.releaseTime } with
          channels := (s.zeroShares i).channels } := by
  unfold State.endDescent
  dsimp only
  rw [zeroShares_eq]; rfl

/-- R20: a fault for want of capacity touches the record, the shares of its feeders, a bank and attention. -/
theorem faultRecord_eq (s : State) (i : Slot) (x : FaultName) :
    s.faultRecord i x
      = { s.setRecord i { s.record i with state := .faulted, present := 0, engageTimer := none } with
          channels := (s.zeroShares i).channels, banks := (s.capture x i.val).banks,
          attention := ((s.capture x i.val).occurMember srcDrop i.val).attention } := by
  unfold State.faultRecord
  dsimp only
  rw [zeroShares_eq]
  simp only [State.capture, State.captureAs]
  by_cases h : (s.bank x.bank).raises x = true
  · have h' : ((({ s with channels := (s.zeroShares i).channels } : State).setRecord i
        { ({ s with channels := (s.zeroShares i).channels } : State).record i with
          state := .faulted, present := 0, engageTimer := none }).bank x.bank).raises x = true := h
    rw [if_pos h, if_pos h']; rfl
  · have h' : ¬((({ s with channels := (s.zeroShares i).channels } : State).setRecord i
        { ({ s with channels := (s.zeroShares i).channels } : State).record i with
          state := .faulted, present := 0, engageTimer := none }).bank x.bank).raises x = true := h
    rw [if_neg h, if_neg h']; rfl

/-- R1, R12: a record that enters FREE, and its feeders. -/
theorem enterFree_eq (s : State) (i : Slot) :
    s.enterFree i = { s.setRecord i DrawRecord.free with channels := (s.enterFree i).channels } := by
  unfold State.enterFree
  rw [updateFeeders_eq]; rfl

theorem enterFree_mem (s : State) (i : Slot) (c : Chan) (h : ∃ f ∈ (s.record i).feeders, f.channel = c) :
    (s.enterFree i).channel c = (s.channel c).unbound :=
  updateFeeders_mem s _ Channel.unbound (fun _ => rfl) c h

theorem enterFree_other (s : State) (i : Slot) (c : Chan) (h : ∀ f ∈ (s.record i).feeders, f.channel ≠ c) :
    (s.enterFree i).channel c = s.channel c :=
  updateFeeders_other s _ _ c h

/-- R59: lowering frozen shares touches channels alone. -/
theorem lowerFrozen_eq (s : State) (n : Nat) (fs : List Feeder) :
    s.lowerFrozen n fs = { s with channels := (s.lowerFrozen n fs).channels } := by
  induction fs generalizing s n with
  | nil => rfl
  | cons f fs ih =>
    unfold State.lowerFrozen
    dsimp only
    split
    · rw [ih]; rfl
    · exact ih s n

/-- R66 to R69: what a capacity event touches. -/
theorem absorbCapacity_eq (s : State) (i : Slot) :
    s.absorbCapacity i
      = { s with table := (s.absorbCapacity i).table, channels := (s.absorbCapacity i).channels,
                 banks := (s.absorbCapacity i).banks, attention := (s.absorbCapacity i).attention } := by
  have hm : ∀ p, s.movePresent i p = { s with table := (s.movePresent i p).table, channels := (s.movePresent i p).channels, banks := (s.movePresent i p).banks, attention := (s.movePresent i p).attention } := by
    intro p; rw [movePresent_eq]; rfl
  have hr : s.reSplit i = { s with table := (s.reSplit i).table, channels := (s.reSplit i).channels, banks := (s.reSplit i).banks, attention := (s.reSplit i).attention } := by
    rw [reSplit_eq]
  have he : s.endDescent i = { s with table := (s.endDescent i).table, channels := (s.endDescent i).channels, banks := (s.endDescent i).banks, attention := (s.endDescent i).attention } := by
    rw [endDescent_eq]; rfl
  have hf : ∀ x, s.faultRecord i x = { s with table := (s.faultRecord i x).table, channels := (s.faultRecord i x).channels, banks := (s.faultRecord i x).banks, attention := (s.faultRecord i x).attention } := by
    intro x; rw [faultRecord_eq]; rfl
  unfold State.absorbCapacity
  dsimp only
  split
  · split
    · exact hf _
    · split
      · exact hm _
      · exact hr
  · split
    · rfl
    · split
      · exact he
      · split
        · exact hm _
        · exact hr
  · rfl

theorem capacityEvent_eq (s : State) (c : Chan) :
    s.capacityEvent c
      = { s with table := (s.capacityEvent c).table, channels := (s.capacityEvent c).channels,
                 engine := (s.capacityEvent c).engine, banks := (s.capacityEvent c).banks,
                 attention := (s.capacityEvent c).attention } := by
  unfold State.capacityEvent
  split
  · rfl
  · split
    · rw [requestPass_eq, absorbCapacity_eq]; rfl
    · rfl

end Sys2Proof.Machine
end

