-- ==== Sys2Proof/Laws/Lines.lean ====
section
/-! SUPPORT. What reaches a line's receiver after a reset (R205), and what the driver enable and TX outputs of a line say of its
receiver (R203, R205). -/

namespace Sys2Proof.Machine

/-- R205: with no character under way from before the end of a reset, a line's character is received. -/
theorem hearLine_clear {s : State} {l : LineNo} (h : s.underway.lines.get l = false) (f : State → State) :
    s.hearLine l f = f s := by
  simp [State.hearLine, h]

/-- R205: a character under way from before the end of a reset ends without being received. -/
theorem hearLine_underway {s : State} {l : LineNo} (h : s.underway.lines.get l = true) (f : State → State) :
    s.hearLine l f = s.setUnderway { s.underway with lines := s.underway.lines.set l false } := by
  simp [State.hearLine, h]

theorem hearGrid_clear {s : State} (h : s.underway.grid = false) (f : State → State) : s.hearGrid f = f s := by
  simp [State.hearGrid, h]

theorem hearGrid_underway {s : State} (h : s.underway.grid = true) (f : State → State) :
    s.hearGrid f = s.setUnderway { s.underway with grid := false } := by
  simp [State.hearGrid, h]

theorem lineCharacter_clear {s : State} {l : LineNo} (h : s.underway.lines.get l = false) (b : Byte) :
    s.lineCharacter l b = s.receiveByte l b :=
  hearLine_clear h _

theorem gridCharacter_clear {s : State} (h : s.underway.grid = false) (b : Byte) :
    s.gridCharacter b = s.receiveGridByte b :=
  hearGrid_clear h _

/-- R203: the driver of a line is enabled exactly while a reply is being sent and no reset lasts. -/
theorem driverEnable_iff (s : State) (l : LineNo) :
    s.driverEnable l = true ↔ s.resetState = .running ∧ ∃ frame n, (s.line l).receiver = .sending frame n := by
  unfold State.driverEnable
  split <;> simp_all

/-- R203, R205: TX is high wherever the driver is disabled. -/
theorem txOutput_high {s : State} {l : LineNo} (h : s.driverEnable l = false) : s.txOutput l = .high := by
  simp [State.txOutput, h]

/-- R203: while a reply is being sent TX carries the first of its characters not yet read back. -/
theorem txOutput_sending {s : State} {l : LineNo} {frame : List Byte} {n : Nat} (hr : s.resetState = .running)
    (h : (s.line l).receiver = .sending frame n) : s.txOutput l = .character (frame.getD n 0x00) := by
  simp [State.txOutput, State.driverEnable, h, hr]

/-- R141: reporting newly set line flags touches the attention and the banks alone. -/
theorem reportLine_eq (s : State) (number : Nat) :
    s.reportLine number
      = { s with attention := (s.reportLine number).attention, banks := (s.reportLine number).banks } := by
  have h := captureAs_eq (s.occurMember srcLine number) .lineError number s.seq.state
  have k := occurMember_eq s srcLine number
  unfold State.reportLine State.capture
  rw [k] at h ⊢
  rw [h]

/-- R121 to R123, R129, R141: giving up a frame or a reply touches the lines, the attention and the banks alone. -/
theorem giveUp_eq (s : State) (l : LineNo) (mask : Byte) :
    s.giveUp l mask
      = { s with lines := (s.giveUp l mask).lines, attention := (s.giveUp l mask).attention,
                 banks := (s.giveUp l mask).banks } := by
  unfold State.giveUp State.raiseLine
  dsimp only
  split
  · rw [reportLine_eq]; rfl
  · rfl

end Sys2Proof.Machine
end

