-- ==== Sys2Proof/Laws/Operands.lean ====
section
/-! SUPPORT. How the fields of a command read back from bytes (R161, R162): one lemma for each kind of field. -/

namespace Sys2Proof.Machine

@[simp] theorem byteOf_toNat (b : Byte) : byteOf b.toNat = b := by simp [byteOf]

theorem toNat_byteOf (n : Nat) : (byteOf n).toNat = n % 256 := by simp [byteOf]

theorem toNat_byteOf_lt {n : Nat} (h : n < 256) : (byteOf n).toNat = n := by rw [toNat_byteOf]; omega

/-- R161: a two-byte quantity reads back. -/
theorem wordOf_bytes {n : Nat} (h : n < 65536) : wordOf (byteOf (n / 256)) (byteOf n) = n := by
  simp only [wordOf, toNat_byteOf]; omega

theorem inRange_some {lo hi n : Nat} (h1 : lo ≤ n) (h2 : n ≤ hi) : inRange lo hi n = some n := if_pos ⟨h1, h2⟩

theorem inRange_eq_some {lo hi n m : Nat} (h : inRange lo hi n = some m) : m = n ∧ lo ≤ n ∧ n ≤ hi := by
  unfold inRange at h; split at h
  · next hn => exact ⟨(Option.some.inj h).symm, hn⟩
  · cases h

theorem currentOf_bytes {n : Nat} (h : n ≤ 4095) : currentOf (byteOf (n / 256)) (byteOf n) = some n := by
  rw [currentOf, wordOf_bytes (by omega), inRange_some (by omega) h]

theorem slotOf_val {b : Byte} {i : Slot} (h : b.toNat = i.val) : slotOf b = some i := by
  simp [slotOf, h]

theorem chanOf_val {b : Byte} {c : Chan} (h : b.toNat = c.val) : chanOf b = some c := by
  simp [chanOf, h]

theorem nineOf_val {b : Byte} {p : Fin 9} (h : b.toNat = p.val) : nineOf b = some p := by
  simp [nineOf, h]

theorem sourceOf_val {b : Byte} {n : SourceNo} (h : b.toNat = n.val) : sourceOf b = some n := by
  simp [sourceOf, h]

theorem bankOf_val {b : Byte} {n : BankNo} (h : b.toNat = n.val) : bankOf b = some n := by
  simp [bankOf, h]

theorem scanOf_val {b : Byte} {n : Fin 7} (h : b.toNat = n.val) : scanOf b = some n := by
  simp [scanOf, h]

theorem classOf_code {b : Byte} {k : DrawClass} (h : b.toNat / 64 = k.code) : classOf b = some k := by
  unfold classOf; rw [h]; cases k <;> rfl

theorem boolOf_le {b : Byte} (h : b.toNat ≤ 1) : boolOf b = some (decide (b.toNat = 1)) := by
  unfold boolOf
  have : b.toNat = 0 ∨ b.toNat = 1 := by omega
  rcases this with h | h <;> simp [h]

theorem modeOf_code {b : Byte} {m : ProfileMode} (h : b.toNat = m.code) : modeOf b = some m := by
  unfold modeOf; rw [h]; cases m <;> rfl

theorem bitOf_eq (b : Byte) (k : Nat) : bitOf b k = b.getLsbD k := by
  rw [bitOf, BitVec.getLsbD, Nat.testBit_eq_decide_div_mod_eq]

/-- R10, R163: feeder entries read back. -/
theorem feedersOf_bytes (fs : List Feeder) (h : ∀ f ∈ fs, 1 ≤ f.weight ∧ f.weight ≤ 15) :
    feedersOf (fs.flatMap fun f => [byteOf f.channel.val, byteOf f.weight]) = some fs := by
  induction fs with
  | nil => rfl
  | cons f fs ih =>
    have hf := h f (by simp)
    have hw := toNat_byteOf_lt (n := f.weight) (by omega)
    have hc := chanOf_val (b := byteOf f.channel.val) (c := f.channel) (toNat_byteOf_lt (by omega))
    have := ih fun g hg => h g (by simp [hg])
    simp [feedersOf, hc, hw, inRange_some hf.1 hf.2, this]

end Sys2Proof.Machine
end

