-- ==== Sys2Proof/Laws/Raises.lean ====
section
/-! SUPPORT. The occurrences an event raises (`Raises`, R186, R187), put together from those of its parts. -/

namespace Sys2Proof.Machine

/-- A source that does not change has no occurrence. -/
theorem raises_of_eq {s t : State} {n : SourceNo} (h : t.source n = s.source n) : Raises s t n fun _ => False := by
  simp [Raises, h]

/-- The occurrences of two events in a row are those of the first and those of the second. -/
theorem Raises.trans {s t u : State} {n : SourceNo} {p q : Nat → Prop} (h : Raises s t n p) (k : Raises t u n q) :
    Raises s u n fun m => p m ∨ q m := by
  obtain ⟨h1, h2, h3, h4⟩ := h
  obtain ⟨k1, k2, k3, k4⟩ := k
  refine ⟨k1.trans h1, k2.trans h2, fun m => ?_, ?_⟩
  · rw [k3, h3, or_assoc]
  · rw [k4, h4, exists_or, or_assoc]

/-- The same occurrences by another description. -/
theorem Raises.congr {s t : State} {n : SourceNo} {p q : Nat → Prop} (h : Raises s t n p) (e : ∀ m, p m ↔ q m) :
    Raises s t n q := by
  rw [show q = p from funext fun m => propext (e m).symm]
  exact h

/-- R186: one occurrence. -/
theorem raises_occurMember (s : State) (n : SourceNo) (m : Nat) : Raises s (s.occurMember n m) n fun k => k = m := by
  simp [Raises, occurMember_source, mem_addMember]

/-- Another source has none. -/
theorem raises_occurMember_ne (s : State) {n k : SourceNo} (m : Nat) (h : n ≠ k) :
    Raises s (s.occurMember n m) k fun _ => False :=
  raises_of_eq (by simp [occurMember_source, h])

/-- R195 to R197: a capture raises FAULT exactly where it changes its bank. -/
theorem FaultBank.raises_iff (b : FaultBank) (x : FaultName) (index : Nat) (st : SeqState) :
    b.raises x = true ↔ b.take x index st ≠ b := by
  unfold FaultBank.raises FaultBank.take
  obtain ⟨valid, overflow, severity, code, i, q⟩ := b
  cases valid <;> cases overflow <;> by_cases h : severity.code < x.severity.code <;> simp [h]
  rintro rfl
  exact absurd h (Nat.lt_irrefl _)

end Sys2Proof.Machine
end

