-- ==== Sys2Proof/WellFormed.lean ====
section
/-! DEFINITION. Which terms of Instr stand for something that can cross the part's boundary under the row they name. Operand types
carry every other bound; what a type does not bound is the number of feeder entries, which one byte must count (R163), and the
selector of a transaction whose row names no selector (R146). -/

namespace Sys2Proof

/-- R163: the feeder count is one byte of the command, so an OPEN DRAW names at most 255 entries. (A count outside 1 to 4 can
be sent; the part refuses it, R150.) -/
def feederCountFits (feeders : List (Byte × Byte)) : Bool := decide (feeders.length ≤ 255)

/-- R146: PUT, TAKE and ABORT have rows of their own. -/
def selectorHasNoRow (selector : Byte) : Bool :=
  decide (selector ≠ Config.putSelector) && decide (selector ≠ Config.takeSelector) && decide (selector ≠ Config.abortSelector)

/-- A term of Instr that can be sent to the part. -/
def Instr.wellFormed : Instr → Bool
  | .openDraw _ _ _ _ _ _ _ _ feeders => feederCountFits feeders
  | .unknownSelector selector _ => selectorHasNoRow selector
  | _ => true

end Sys2Proof
end

