-- ==== Sys2Proof/Tests/Slice0.lean ====
section
/-! SUPPORT. Tests of the model on small states, with values from the manual's worked examples where it has them, and for each
statement a state and operands that meet its hypotheses. -/

namespace Sys2Proof.Tests

open Sys2Proof Sys2Proof.Machine

set_option Elab.async false

/-! ## The part of the examples: slot 5 with feeders 8 and 9 (sections 6.8 and 8.3) -/

/-- The state a command leaves. -/
def after (i : Instr) (s : State) : State :=
  match exec i s with
  | .next t => t
  | _ => s

/-- Slot 5 of the examples: tag 42, class B, rank 3, floor 300, ceiling 1000, target 800. -/
def stack (st : RecordState) (present : Nat) : DrawRecord :=
  { DrawRecord.free with
    state := st, tag := 42, cls := .b, rank := 3, floor := 300, ceiling := 1000, target := 800, aim := 800, upRate := 100,
    downRate := 50, feeders := [{ channel := 8, weight := 1 }, { channel := 9, weight := 1 }], grant := 800,
    present := present }

/-- A feeder of slot 5, ONLINE, of capacity 600. -/
def feeder (share : Nat) : Channel :=
  { Channel.blank with
    enabled := true, capacity := 600, owner := some 5, condition := .online, share := share, staleTimer := some 40 }

/-- Slot 5 in a lifecycle state with a present split in two halves, the Sequencer in NORMAL, the port ready, the Engine idle, and
channels 10 and 11 enabled and unbound. -/
def base (st : RecordState) (present : Nat) : State :=
  let free := { Channel.blank with enabled := true, capacity := 600 }
  { State.reset with
    table := State.reset.table.set 5 (stack st present)
    channels := (((State.reset.channels.set 8 (feeder (present / 2))).set 9 (feeder (present / 2))).set 10 free).set 11 free
    seq := { Sequencer.initial with state := .normal, inUse := none }
    engine := { Engine.initial with e0 := 8000 } }

/-- The same with a pass in flight. -/
def flying (st : RecordState) (present : Nat) : State :=
  let s := base st present
  { s with engine := { s.engine with pass := .running s.snapshot } }

/-- The same with another Sequencer. -/
def riding (st : SeqState) (p : ProfileNo) : State :=
  let s := base .active 800
  { s with seq := { s.seq with state := st, inUse := some p, i0 := 800, er := 500, holdTimer := some 20, restoreTimer := some 20 } }

/-- One line in another state. -/
def onLine (r : Receiver) (reply : Option Chan) : State :=
  (base .active 800).setLine 2 { receiver := r, reply := reply, flags := 0 }

/-- Channel 8 in a condition, with its timers. -/
def channel8 (c : Condition) (stale lost : Timer) : State :=
  (base .active 800).setChannel 8 { feeder 400 with condition := c, frozen := if c = .stale then 400 else 0, staleTimer := stale,
                                                    lostTimer := lost }

/-! ## Well-formed terms -/

theorem test_wellFormed_openDraw : Instr.wellFormed (.openDraw 0 1 0 1 1 1 1 1 [(0, 1)]) = true := by decide
/-- R163: a count of 256 entries does not fit the one byte of the command. -/
theorem test_illFormed_openDraw : Instr.wellFormed (.openDraw 0 1 0 1 1 1 1 1 (List.replicate 256 (0, 1))) = false := by
  decide +kernel
theorem test_wellFormed_status : Instr.wellFormed (.unknownSelector Config.statusSelector 0) = true := by decide
/-- R146: PUT has a row of its own. -/
theorem test_illFormed_unknownSelector : Instr.wellFormed (.unknownSelector 0x5A 0) = false := by decide
theorem test_noWordSpells : decodeTableWord 8 0x11 = none := rfl

/-! ## Resets and the port -/

theorem test_powerOnReset_frees : (after .powerOnReset (base .active 800)).record 5 = DrawRecord.free := by decide +kernel
theorem test_pinReset_keeps_banks :
    ((after .pinReset ((base .active 800).capture .lost 8)).bank 3).code = 4 := by decide +kernel
/-- Section 11.2: status reads 0x84 after reset. -/
theorem test_endOfReset_status :
    (after (.endOfReset Underway.nothing) (after .pinReset (base .active 800))).mainStatus = 0x84 := by decide +kernel

/-- R205: the part right after a reset in the middle of a transaction, of a character on line 2 and of one on the grid line. -/
def begun : State :=
  after (.endOfReset { port := true, lines := Underway.nothing.lines.set 2 true, grid := true })
    (after .pinReset (base .active 800))

/-- R205: the transaction is ignored, and the next one is taken. -/
theorem test_begun_transaction :
    (after (.put 0x00) begun).port.phase = .command
      ∧ (after (.put 0x00) (after (.put 0x00) begun)).port.phase = .result := by decide +kernel
/-- R205: the character is not received, and the next one is. -/
theorem test_begun_character :
    ((after (.rectifierLineCharacter 2 0xC0) begun).line 2).receiver = .hunting
      ∧ ((after (.rectifierLineCharacter 2 0xC0) (after (.rectifierCharacterError 2 .framing) begun)).line 2).receiver
        = .receiving [0xC0] := by decide +kernel
theorem test_begun_gridCharacter :
    (after (.gridCharacterError .parity) begun).grid.flags = 0x00
      ∧ (after (.gridLineCharacter 0xA5) begun).grid.receiver = .hunting := by decide +kernel
theorem test_put_unknown_code : (after (.put 0x00) (base .active 800)).port.result = [0x80, 0x80] := by decide +kernel
theorem test_put_readPlant_length : (after (.put 0x21) (base .active 800)).port.result.length = 29 := by decide +kernel
theorem test_take_first_byte : (after (.take false) (after .senseAttention (base .active 800))).sdo = 0x00 := by decide +kernel
theorem test_take_early_slips : (after (.take true) (after .senseAttention (base .active 800))).port.slip = true := by
  decide +kernel
theorem test_abort_clears : (after .abort (after .readPlant (base .active 800))).port = Port.initial := by decide +kernel
theorem test_unknownSelector_slips : (after (.unknownSelector 0x00 0x00) (base .active 800)).mainStatus = 0x81 := by
  decide +kernel
/-- R146, section 11.2: a STATUS after reset shifts out 0x84, and 0x85 once SLIP is set, which it leaves. -/
theorem test_status :
    (after (.unknownSelector 0x3C 0xFF) State.reset).sdo = 0x84
      ∧ (after (.unknownSelector 0x3C 0xFF) (after .transactionCutShort State.reset)).sdo = 0x85
      ∧ (after (.unknownSelector 0x3C 0xFF) (after .transactionCutShort State.reset)).port.slip = true := by decide +kernel
/-- R204, R205, R145: SDO in no transaction, in a reset, and in the data byte of a STATUS. -/
theorem test_sdo :
    State.reset.sdoOutput .high = .highImpedance ∧ (after .pinReset State.reset).sdoOutput .selectorByte = .highImpedance
      ∧ State.reset.sdoOutput (.dataByte (State.reset.dataOut (selectorOf 0x3C) false)) = .byte 0x84
      ∧ begun.sdoOutput .selectorByte = .unstated := by decide +kernel
theorem test_cutShort_slips : (after .transactionCutShort (base .active 800)).port.slip = true := by decide +kernel

/-! ## Draw commands -/

theorem test_openDraw_result :
    (after (.openDraw 6 43 0x58 300 1000 1100 100 50 [(10, 1), (11, 1)]) (base .active 800)).port.result
      = [0x00, 0x01, 6, 1] := by decide +kernel
/-- R164: the slot, the tag and the channels in use, and the target below the floor. -/
theorem test_openDraw_reasons :
    (after (.openDraw 5 42 0x58 300 1000 200 100 50 [(8, 1), (9, 1)]) (base .active 800)).port.result
      = [0x40, 0x72] := by decide +kernel
theorem test_setTarget_band : (after (.setTarget 5 299) (base .active 800)).port.result = [0x40, 0x02] := by decide +kernel
theorem test_setTarget_arrival :
    ((after (.setTarget 5 700) (base .active 700)).source srcArrival).members = [5] := by decide +kernel
theorem test_amendDraw_attributes :
    ((after (.amendDraw 5 0x86 1 2) (base .active 800)).record 5).cls = .c
      ∧ ((after (.amendDraw 5 0x86 1 2) (base .active 800)).record 5).exempt = true := by decide +kernel
theorem test_retireDraw_active :
    ((after (.retireDraw 5) (base .active 800)).record 5).state = .releasing
      ∧ (after (.retireDraw 5) (base .active 800)).port.result = [0x00, 0x00, 0x04] := by decide +kernel
/-- Section 8.3: the worked reading of slot 5. -/
theorem test_readDraw_example :
    (after (.readDraw 5) (base .active 300)).port.result =
      [0x00, 0x00, 5, 3, 42, 0x58, 0x01, 0x2C, 0x03, 0xE8, 0x03, 0x20, 0x03, 0x20, 100, 50, 0xFF, 0xFF, 0x03, 0x20, 0x01, 0x2C,
       0x03, 0xE8, 0x01, 0x2C, 2, 8, 1, 2, 0, 150, 9, 1, 2, 0, 150] := by decide +kernel
theorem test_readDraw_free_length : (after (.readDraw 0) (base .active 300)).port.result.length = 27 := by decide +kernel
theorem test_scanDraws_curtailed :
    (after (.scanDraws 1 0xFFFF) (base .active 300)).port.result = [0x00, 0x00, 1, 5] := by decide +kernel
theorem test_scanDraws_range : (after (.scanDraws 5 3) (base .active 300)).port.result = [0x80, 0x80] := by decide +kernel

/-! ## Plant, channels, lines, profiles, grid and timing -/

theorem test_setCap_starts_pass : (after (.setCap 600) (base .active 800)).engine.pass.inFlight = true := by decide +kernel
theorem test_setCap_waits : (after (.setCap 600) (flying .active 800)).engine.e0 = 8000 := by decide +kernel
theorem test_readPlant_changes_nothing :
    (after .readPlant (base .active 800)).table = (base .active 800).table := by decide +kernel
theorem test_setChannel_bound : (after (.setChannel 8 1 0) (base .active 800)).port.result = [0x40, 0x10] := by decide +kernel
theorem test_setChannel_capacity : ((after (.setChannel 10 1 0x0FFF) (base .active 800)).channel 10).capacity = 4095 := by
  decide +kernel
theorem test_rearm_tripped : ((after (.rearmChannel 8) (channel8 .tripped none none)).channel 8).condition = .waiting := by
  decide +kernel
theorem test_rearm_online : (after (.rearmChannel 8) (base .active 800)).port.result = [0x40, 0x04] := by decide +kernel
theorem test_readChannel_bytes :
    (after (.readChannel 8) (base .active 800)).port.result =
      [0x00, 0x00, 8, 1, 0x02, 0x58, 2, 5, 0x01, 0x90, 0, 0, 0xFF, 0xFF, 0x02, 0x58, 0, 0, 0, 0, 0, 1] := by decide +kernel
theorem test_readLine_clears :
    ((after (.readLine 2) (after (.fetchDiscard 2) (base .active 800))).line 2).flags = 0
      ∧ (after (.readLine 2) (after (.fetchDiscard 2) (base .active 800))).port.result = [0x00, 0x00, 0x84] := by decide +kernel
theorem test_loadProfile_silence :
    ((after (.loadProfile 8 1 0xFF 0xFF 1 5 600 1 9 8 7) (base .active 800)).profile 8).enabled = false
      ∧ ((after (.loadProfile 8 1 0xFF 0xFF 1 5 600 1 9 8 7) (base .active 800)).profile 8).retain = 600 := by decide +kernel
theorem test_loadProfile_in_use : (after (.loadProfile 2 1 0x40 0x40 0 2 200 0 20 10 400) (riding .riding 2)).port.result
    = [0x40, 0x04] := by decide +kernel
theorem test_readProfile_silence :
    (after (.readProfile 8) State.reset).port.result
      = [0x00, 0x00, 0, 0, 0, 0, 1, 0x02, 0xBC, 0, 50, 20, 0, 100] := by decide +kernel
theorem test_configureGrid_droop :
    (after (.configureGrid 850 500 150 1100 20 20 50 5 10 600 5) State.reset).grid.settings.fmin = 600 := by decide +kernel
theorem test_configureTiming_limit :
    (after (.configureTiming 20 40 50 200 100 40 5 1)
      ((base .active 800).setSeq { Sequencer.initial with reentries := 2 })).seq.resumeRequired = true := by decide +kernel
theorem test_readGrid_reset :
    (after (.readGrid 0) State.reset).port.result =
      [0x00, 0x00, 6, 8, 0xFF, 0, 0, 0, 0, 0, 0, 3, 0, 0, 0, 0, 0, 0, 0, 0, 0, 0, 0] := by decide +kernel
theorem test_resume_latched :
    (after .resume (riding .latched 3)).seq.state = .restoring ∧ (after .resume (riding .latched 3)).seq.reentries = 0 := by
  decide +kernel
theorem test_resume_normal : (after .resume (base .active 800)).port.result = [0x40, 0x04] := by decide +kernel

/-! ## Attention and fault banks -/

/-- Section 11.6: FAULT with member 0 and DROP with members 3 and 4, every source enabled. -/
def sag : State :=
  (after .abort (after (.setAttentionMask 0xFF)
    ((((base .active 800).capture .dropout 4).occurMember srcDrop 4).occurMember srcDrop 3)))

theorem test_sense_fault : (after .senseAttention sag).port.result = [0x00, 0x00, 1, 0] := by decide +kernel
theorem test_sense_drop :
    (after .senseAttention (after .abort (after (.endService 1) (after .abort (after .senseAttention sag))))).port.result
      = [0x00, 0x00, 2, 3] := by decide +kernel
theorem test_endService_asserts :
    (after .senseAttention sag).attn = false
      ∧ (after (.endService 1) (after .abort (after .senseAttention sag))).attn = true := by decide +kernel
theorem test_setAttentionMask_deasserts : sag.attn = true ∧ (after (.setAttentionMask 0) sag).attn = false := by decide +kernel
theorem test_readFaultBank_dropout : (after (.readFaultBank 0) sag).port.result = [0x00, 0x00, 1, 0, 2, 2, 4, 0] := by
  decide +kernel
theorem test_clearFaultBank_empties : (after (.clearFaultBank 0) sag).bank 0 = FaultBank.empty := by decide +kernel

/-- Section 9.3: one bank under a run of captures. -/
theorem test_bank_run :
    (((((base .active 800).capture .lineError 2).capture .tracking 9).capture .tripped 8).capture .lost 10).bank 3
      = { valid := true, overflow := true, severity := .degraded, code := 3, index := 8, seqState := .normal } := by
  decide +kernel

/-! ## Passes and the Ramp Unit -/

/-- A cap of 300 cuts slot 5 to its floor, split in halves. -/
theorem test_publication_cuts :
    ((after (.publication (.whole 0)) (after (.setCap 300) (base .active 800))).record 5).present = 300
      ∧ ((after (.publication (.whole 0)) (after (.setCap 300) (base .active 800))).channel 9).share = 150 := by decide +kernel
/-- A cap below the floor drops slot 5. -/
theorem test_publication_drops :
    ((after (.publication .opened) (after (.setCap 299) (base .active 800))).record 5).state = .shed
      ∧ ((after (.publication .opened) (after (.setCap 299) (base .active 800))).bank 0).index = 5 := by decide +kernel
/-- R192, section 9.3: that drop adds a DROP member and one FAULT member for bank 0, whatever the enables. -/
theorem test_publication_raises :
    (after (.publication .opened) (after (.setCap 299) (base .active 800))).source srcFault
        = { ie := false, ip := true, ius := false, members := [0] }
      ∧ (after (.publication .opened) (after (.setCap 299) (base .active 800))).source srcDrop
        = { ie := false, ip := true, ius := false, members := [5] } := by decide +kernel
/-- Section 8.3: one step expiry later slot 5 has 400, shared 200 each. -/
theorem test_step_rises :
    ((after .stepTimerExpiry (base .active 300)).record 5).present = 400
      ∧ ((after .stepTimerExpiry (base .active 300)).channel 8).share = 200 := by decide +kernel
theorem test_step_deferred : (after .stepTimerExpiry (flying .active 300)).ramp.deferred = 1 := by decide +kernel

/-- Slot 5 ENGAGING or RELEASING with both its timers running. -/
def timed (st : RecordState) : State :=
  (base st 0).setRecord 5 { stack st 0 with engageTimer := some 200, releaseTimer := some 100 }

theorem test_engage_completes :
    ((after (.engageTimerExpiry 5) (timed .engaging)).record 5).present = 300
      ∧ ((after (.engageTimerExpiry 5) (timed .engaging)).channel 8).share = 150 := by decide +kernel
theorem test_release_frees :
    (after (.releaseTimerExpiry 5) (timed .releasing)).record 5 = DrawRecord.free
      ∧ ((after (.releaseTimerExpiry 5) (timed .releasing)).channel 8).owner = none := by decide +kernel

/-! ## The rectifier lines -/

/-- Section 6.8: the fourth FETCH of the tracking example clamps channel 9. -/
def tracked : State :=
  let s := base .active 800
  after (.fetch 9 true false false 340)
    ({ s with timing := { s.timing with trackCount := 3 } }.setChannel 9 { feeder 400 with mismatch := 2 })

theorem test_fetch_tracking :
    (tracked.channel 8).share = 460 ∧ (tracked.channel 9).share = 340 := by decide +kernel
/-- R139: a FETCH from a STALE channel is not tested. -/
theorem test_fetch_stale_untested :
    ((after (.fetch 8 true false false 0) (channel8 .stale none (some 50))).channel 8).mismatch = 0
      ∧ ((after (.fetch 8 true false false 0) (channel8 .online (some 40) none)).channel 8).mismatch = 1 := by decide +kernel
/-- Section 6.8: at 300 ms NOT_READY releases the frozen share and cuts the present. -/
theorem test_fetch_notReady :
    ((after (.fetch 8 false false false 0) (channel8 .stale none (some 50))).record 5).present = 600
      ∧ ((after (.fetch 8 false false false 0) (channel8 .stale none (some 50))).channel 9).share = 600 := by decide +kernel
theorem test_fetchDiscard_check : ((after (.fetchDiscard 2) (base .active 800)).line 2).flags = 0x84 := by decide +kernel
theorem test_fetchTimeLimit_framing :
    (after (.fetchTimeLimit 2) (onLine (.receiving [0xC0]) none)).line 2
      = { receiver := .hunting, reply := none, flags := 0x82 } := by decide +kernel
theorem test_characterError_both : ((after (.rectifierCharacterError 2 .both) (base .active 800)).line 2).flags = 0x83 := by
  decide +kernel
theorem test_characterError_sending :
    ((after (.rectifierCharacterError 2 .parity) (onLine (.sending [0xE0, 0, 0, 0, 0x20] 1) none)).line 2).flags = 0x88 := by
  decide +kernel
/-- Section 10.3, R203: a RUN reply to channel 9 with share 400 and publication number 0. -/
theorem test_replyBegin_bytes :
    ((after (.replyBegin 2) (onLine .hunting (some 9))).line 2).receiver
      = .sending [0xE1, 0x61, 0x90, 0x00, 0x2E] 0 := by decide +kernel
/-- R19, R203: a STALE feeder of an ACTIVE record is answered STANDBY (code 5) with its share of 400. -/
theorem test_replyBegin_stale :
    ((after (.replyBegin 2) ((channel8 .stale none (some 50)).setLine 2
      { receiver := .hunting, reply := some 8, flags := 0 })).line 2).receiver
      = .sending [0xE0, 0xA1, 0x90, 0x00, 0xEF] 0 := by decide +kernel
/-- R203, R205: TX carries the reply's bytes, and is high otherwise and in a reset. -/
theorem test_tx :
    (onLine (.sending [0xE0, 0, 0, 0, 0x20] 4) none).txOutput 2 = .character 0x20 ∧ (base .active 800).txOutput 2 = .high
      ∧ ({ onLine (.sending [0xE0, 0, 0, 0, 0x20] 4) none with resetState := .pinHeld } : State).txOutput 2 = TxOutput.high := by
  decide +kernel
theorem test_grantComplete_hunts :
    ((after (.grantComplete 2) (onLine (.sending [0xE0, 0, 0, 0, 0x20] 1) none)).line 2).receiver = .hunting := by
  decide +kernel
theorem test_collision_flags :
    ((after (.collision 2) (onLine (.sending [0xE0, 0, 0, 0, 0x20] 1) none)).line 2).flags = 0x88 := by decide +kernel
/-- Section 6.8: at 60 ms the share is frozen and floor_eff rises to 400. -/
theorem test_stale_freezes :
    ((after (.staleTimerExpiry 8) (base .active 800)).channel 8).frozen = 400
      ∧ (after (.staleTimerExpiry 8) (base .active 800)).floorEff 5 = 400 := by decide +kernel
/-- Section 11.4: the loss cuts the present to the capacity left. -/
theorem test_lost_cuts :
    ((after (.lostTimerExpiry 8) (channel8 .stale none (some 50))).record 5).present = 600
      ∧ ((after (.lostTimerExpiry 8) (channel8 .stale none (some 50))).bank 3).code = 4 := by decide +kernel
/-- R131, R140: the loss of a STALE channel without a share removes its clamp, which is a capacity event, and without a clamp none. -/
theorem test_lost_clamp :
    let s := (base .active 800).setChannel 10 { feeder 0 with owner := some 5, condition := .stale, clamp := some 100,
                                                              staleTimer := none, lostTimer := some 50 }
    let t := s.setChannel 10 { s.channel 10 with clamp := none }
    (after (.lostTimerExpiry 10) s).engine.pass.inFlight = true
      ∧ (after (.lostTimerExpiry 10) t).engine.pass.inFlight = false := by decide +kernel
theorem test_lineCharacter_lead :
    ((after (.rectifierLineCharacter 2 0xC3) (base .active 800)).line 2).receiver = .receiving [0xC3] := by decide +kernel
/-- Section 10.3: channel 9's FETCH, READY with 400 du, byte by byte. -/
theorem test_lineCharacter_fetch :
    ((after (.rectifierLineCharacter 2 0x2E) (onLine (.receiving [0xC1, 0x81, 0x90]) none)).channel 9).lastMeasured = 400
      ∧ fetchBytes 9 true false false 400 = [0xC1, 0x81, 0x90, 0x2E] := by decide +kernel

/-! ## The grid line and the Sequencer -/

/-- Section 4.3: the settings of the classification and droop examples, with profile 3 enabled, after frame a. -/
def classified : State :=
  let s := base .active 800
  { s with
    grid := { s.grid with settings := { s.grid.settings with db := 2, k := 12 }, seqRef := some 7, silenceTimer := some 5 }
    seq := { s.seq with profiles := s.seq.profiles.set 3 { Profile.default with enabled := true, mask := 0x82,
                                                                                polarity := 0x82, confirm := 3 } } }

/-- Section 4.6: frame b. -/
theorem test_gridFrame_b :
    (after (.gridFrame 0x81 780 65 0xFFF8 0x93) classified).grid.conditions = 0x82
      ∧ (after (.gridFrame 0x81 780 65 0xFFF8 0x93) classified).grid.f = 928
      ∧ (after (.gridFrame 0x81 780 65 0xFFF8 0x93) classified).seq.candidate = some 3 := by decide +kernel
/-- Section 10.2: frame a with its check byte 0xF3. -/
theorem test_gridFrame_a : checkSum (gridBytes 0x71 1002 12 0xFFFF 0xF3) = 0 := by decide +kernel
theorem test_gridFrameTimeLimit_flags :
    (after .gridFrameTimeLimit (after (.gridLineCharacter 0xA5) (base .active 800))).grid.flags = 0x82 := by decide +kernel
theorem test_gridCharacterError_flags : (after (.gridCharacterError .parity) (base .active 800)).grid.flags = 0x81 := by
  decide +kernel
theorem test_gridLineCharacter_lead :
    (after (.gridLineCharacter 0xA5) (base .active 800)).grid.receiver = .receiving [0xA5] := by decide +kernel
/-- R112: the snapshot current is 800 and the silence profile keeps 700 per mille of it. -/
theorem test_silence_blind :
    (after .silenceTimerExpiry classified).seq.state = .blind ∧ (after .silenceTimerExpiry classified).seq.er = 560
      ∧ ((after .silenceTimerExpiry classified).bank 2).code = 2 := by decide +kernel
theorem test_hold_restores : (after .holdTimerExpiry (riding .holding 3)).seq.state = .restoring := by decide +kernel
theorem test_restore_steps : (after .restoreTimerExpiry (riding .restoring 3)).seq.er = 600 := by decide +kernel

/-! ## Witnesses: states and operands that meet the hypotheses of the statements -/

/-- Slot 5 ACTIVE with a command behind it in the queue. -/
def queued (c : Instr) : State := { base .active 800 with pending := [c] }

/-- A port in another state. -/
def ported (p : Port) : State := { base .active 800 with port := p }

/-- A port holding some parameter bytes of a command. -/
def loading (c : CmdCode) (ps : List Byte) (expected : Nat) : State :=
  ported { Port.initial with code := some c, params := ps, expected := expected }

/-- The publication window open, a SET CAP waiting, with step expiries deferred. -/
def window (due rerun : Bool) (waiting : Option Cmd) (deferred : Nat) : State :=
  let s := base .active 800
  { s with
    engine := { s.engine with pass := .window due, rerun := rerun }
    ramp := { s.ramp with deferred := deferred }
    port := { s.port with phase := if waiting.isSome then .execution else .command, waiting := waiting } }

theorem witness_StepTakesFrontCommand :
    (queued .abort).pending = .abort :: [] ∧ (base .active 800).pending = [] := by decide +kernel

theorem witness_ResetsRestartAndHoldThePart :
    (base .active 800).resetState ≠ .powerHeld ∧ (after .powerOnReset State.reset).resetState = .powerHeld
      ∧ (after .pinReset State.reset).resetState ≠ .running ∧ (base .active 800).resetState = .running
      ∧ Instr.put 0 ≠ .powerOnReset ∧ Instr.put 0 ≠ .pinReset ∧ begun.up ∧ begun.underway.port = true
      ∧ begun.underway.lines.get 2 = true ∧ begun.underway.grid = true := by decide +kernel

theorem witness_ResetsRestartAndHoldThePart_row : ∀ u : Underway, Instr.put 0 ≠ .endOfReset u := fun _ => Instr.noConfusion

theorem witness_PutTransactionActsByPhase :
    (ported { Port.initial with phase := .result, result := [0, 0] }).port.phase ≠ .command
      ∧ ((base .active 800).ready ∧ ∀ c ∈ allCodes, c.byte ≠ 0x10)
      ∧ ((base .active 800).ready ∧ CmdCode.setTarget.byte = 0x12 ∧ CmdCode.setTarget ≠ .readPlant
        ∧ CmdCode.setTarget ≠ .resume ∧ CmdCode.setTarget ≠ .senseAttention)
      ∧ ((loading .setTarget [5] 3).port.params.length + 1 ≠ (loading .setTarget [5] 3).port.expected
        ∧ ¬(CmdCode.setTarget = .openDraw ∧ (loading .setTarget [5] 3).port.params.length = 11))
      ∧ ((loading .openDraw (List.replicate 11 0) 12).port.params.length = 11 ∧ 1 ≤ (4 : Byte).toNat ∧ (4 : Byte).toNat ≤ 4
        ∧ (0 : Byte).toNat = 0 ∧ 4 < (5 : Byte).toNat)
      ∧ ((loading .setTarget [5, 16] 3).port.params.length + 1 = (loading .setTarget [5, 16] 3).port.expected
        ∧ parseCmd .setTarget ((loading .setTarget [5, 16] 3).port.params ++ [0]) = none)
      ∧ ((loading .setTarget [5, 1] 3).attends ∧ parseCmd .setTarget [5, 1, 44] = some (.setTarget 5 300)
        ∧ (Cmd.setTarget 5 300).waits = true ∧ (loading .setTarget [5, 1] 3).engine.pass = .idle) := by decide +kernel

/-- The last parameter byte of a command that finds a pass in flight, or its window open. -/
theorem witness_PutTransactionActsByPhase_waits :
    let load := fun s : State => s.setPort (loading .setTarget [5, 1] 3).port
    (load (flying .active 800)).engine.pass = .running (base .active 800).snapshot
      ∧ (load (window true false none 0)).engine.pass = .window true
      ∧ (load (flying .active 800)).port.code = some .setTarget ∧ (load (window true false none 0)).attends := by decide +kernel

/-- R152: the last parameter byte of SET TARGET 5, 300, its EXECUTION taken before the start of the pass in flight. -/
def beforeStart : State := (flying .active 800).setPort (loading .setTarget [5, 1] 3).port

/-- The last parameter byte of a command that is taken before the start of a pass, and states in which no pass is just starting. -/
theorem witness_PutTransactionActsByPhase_early :
    let idle := { beforeStart with engine := { beforeStart.engine with pass := .idle } }
    beforeStart.engine.pass = .running beforeStart.snapshot ∧ beforeStart.engine.rerun = false ∧ beforeStart.attends
      ∧ perform (.setTarget 5 300) idle = ((perform (.setTarget 5 300) idle).1, (perform (.setTarget 5 300) idle).2)
      ∧ (base .active 800).snapshot ≠ (beforeStart.setRecord 5 (stack .active 700)).snapshot
      ∧ (beforeStart.requestPass).engine.rerun = true := by decide +kernel

/-- R152, R44: a command taken before the start of a pass is in its snapshot, and its own request sets the rerun flag. -/
theorem test_put_before_pass_start :
    let t := after (.put 44 true) beforeStart
    (t.record 5).target = 300 ∧ t.engine.pass = .running t.snapshot ∧ t.engine.rerun = true ∧ t.port.phase = .result := by
  decide +kernel

/-- R152, R165: one that is FAILED, on a RELEASING record, raises no request and leaves the pass to the other event. -/
theorem test_put_before_pass_start_failed :
    let s := (flying .releasing 800).setPort (loading .setTarget [5, 1] 3).port
    (after (.put 44 true) s).engine = s.engine ∧ (after (.put 44 true) s).port.result = [0x40, 0x40] := by decide +kernel

theorem witness_TakeAbortAndBadTransactions :
    let s := ported { Port.initial with phase := .result, result := [0x40, 0x02] }
    let t := ported { Port.initial with phase := .result, result := [0x40, 0x02], readPos := 1 }
    s.attends ∧ s.port.phase = .result ∧ s.port.result[s.port.readPos]? = some 0x40 ∧ s.port.readPos + 1 < s.port.result.length
      ∧ t.port.phase = .result ∧ t.port.result[t.port.readPos]? = some 0x02 ∧ t.port.readPos + 1 = t.port.result.length
      ∧ (base .active 800).port.phase ≠ .result ∧ (0x00 : Byte) ≠ 0x3C ∧ (0x00 : Byte) ≠ 0x5A ∧ (0x00 : Byte) ≠ 0xA5
      ∧ (0x00 : Byte) ≠ 0xC3 := by decide +kernel

theorem witness_AttnPinAndMainStatus :
    let s := ported { Port.initial with phase := .result, result := [0x40, 0x02] }
    s.attends ∧ s.port.phase = .result ∧ s.port.result[s.port.readPos]? = some 0x40 ∧ (base .active 800).port.phase ≠ .result
      ∧ ¬(after .pinReset State.reset).up ∧ (0x5A : Byte) ≠ 0x3C ∧ (0x5A : Byte) ≠ 0xA5 := by decide +kernel

theorem witness_InvalidCommandsChangeNothing :
    sentBytes (.setTarget 24 4095) = some (.setTarget, [24, 0x0F, 0xFF]) ∧ (base .active 800).ready
      ∧ parseCmd .setTarget [24, 0x0F, 0xFF] = none
      ∧ ([] : List (Byte × Byte)).length = 0 ∧ (List.replicate 255 ((0, 1) : Byte × Byte)).length ≤ 255
      ∧ 4 < (List.replicate 5 ((0, 1) : Byte × Byte)).length := by decide +kernel

theorem witness_CommandsAreTakenOrWait :
    sentBytes (.setCap 600) = some (.setCap, [0x02, 0x58]) ∧ parseCmd .setCap [0x02, 0x58] = some (.setCap 600)
      ∧ (Cmd.setCap 600).waits = true ∧ (flying .active 800).ready
      ∧ (flying .active 800).engine.pass = .running (base .active 800).snapshot
      ∧ (window true false none 0).ready ∧ (window true false none 0).engine.pass = .window true
      ∧ sentBytes .readPlant = some (.readPlant, []) ∧ parseCmd .readPlant [] = some .readPlant ∧ Cmd.readPlant.waits = false
      ∧ (base .active 800).engine.pass = .idle := by decide +kernel

theorem witness_CommandBytesReadBack :
    (Cmd.setTarget 23 4095).inRange = true ∧ parseCmd .setTarget [23, 0x0F, 0xFF] = some (.setTarget 23 4095) := by
  decide +kernel

theorem witness_OpenDrawOpensRecord :
    let s := base .active 800
    let fs : List Feeder := [{ channel := 10, weight := 1 }, { channel := 11, weight := 15 }]
    s.ready ∧ s.idle ∧ (23 : Byte).toNat = (23 : Slot).val ∧ 1 ≤ (254 : Byte).toNat ∧ (254 : Byte).toNat ≤ 254
      ∧ (0xBF : Byte).toNat / 64 = DrawClass.c.code ∧ 1 ≤ (1200 : Word).toNat ∧ (1200 : Word).toNat ≤ (4095 : Word).toNat
      ∧ (4095 : Word).toNat ≤ 4095 ∧ (1200 : Word).toNat ≤ (4095 : Word).toNat ∧ 1 ≤ (255 : Byte).toNat ∧ 1 ≤ (1 : Byte).toNat
      ∧ 1 ≤ fs.length ∧ fs.length ≤ 4 ∧ (fs.map fun f => f.channel).Nodup
      ∧ (∀ f ∈ fs, 1 ≤ f.weight ∧ f.weight ≤ 15 ∧ (s.channel f.channel).enabled = true ∧ (s.channel f.channel).owner = none)
      ∧ (s.record 23).state = .free ∧ (∀ j : Slot, (s.record j).state ≠ .free → (s.record j).tag ≠ (254 : Byte).toNat)
      ∧ (1200 : Word).toNat ≤ (fs.map fun f => (s.channel f.channel).capacity).sum := by decide +kernel

theorem witness_OpenDrawRefusedWithReasons :
    sentBytes (.openDraw 5 42 0x58 300 1000 200 100 50 [(8, 1), (9, 1)])
        = some (.openDraw, [5, 42, 0x58, 0x01, 0x2C, 0x03, 0xE8, 0, 200, 100, 50, 2, 8, 1, 9, 1])
      ∧ parseCmd .openDraw [5, 42, 0x58, 0x01, 0x2C, 0x03, 0xE8, 0, 200, 100, 50, 2, 8, 1, 9, 1]
        = some (.openDraw { slot := 5, tag := 42, cls := .b, rank := 3, lock := false, exempt := false, floor := 300,
                            ceiling := 1000, target := 200, upRate := 100, downRate := 50,
                            feeders := [{ channel := 8, weight := 1 }, { channel := 9, weight := 1 }] })
      ∧ (base .active 800).ready ∧ (base .active 800).idle ∧ 64 + 32 + 16 + 2 ≠ 0
      ∧ ((base .active 800).record 5).state ≠ .free ∧ ((base .active 800).record 5).tag = 42
      ∧ ((base .active 800).channel 8).owner ≠ none := by decide +kernel

theorem witness_SetTargetStoresTarget :
    (base .active 700).ready ∧ (base .active 700).idle ∧ (5 : Byte).toNat = (5 : Slot).val ∧ (4095 : Word).toNat ≤ 4095
      ∧ ((base .active 700).record 5).lock = false ∧ ((base .active 700).record 5).floor ≤ (300 : Word).toNat
      ∧ ((base .active 700).record 5).present = min (700 : Word).toNat ((base .active 700).record 5).ceiling
      ∧ ((base .active 700).record 5).present ≠ ((base .active 700).record 5).target
      ∧ ((base .free 0).record 5).state = .free ∧ (299 : Word).toNat < ((base .active 700).record 5).floor := by decide +kernel

theorem witness_AmendDrawAndRetireDraw :
    (base .active 800).ready ∧ (base .active 800).idle ∧ (5 : Byte).toNat = (5 : Slot).val
      ∧ (0xBF : Byte).toNat / 64 = DrawClass.c.code ∧ 1 ≤ (1 : Byte).toNat
      ∧ ((base .active 800).record 5).state = .active ∧ ((base .free 0).record 5).state = .free
      ∧ ((base .releasing 0).record 5).state = .releasing ∧ ((base .engaging 0).record 5).state = .engaging
      ∧ ((base .pending 0).record 5).state = .pending ∧ ((base .shed 0).record 5).state = .shed
      ∧ ((base .faulted 0).record 5).state = .faulted := by decide +kernel

theorem witness_ReadDrawAndScanDraws :
    (base .active 800).ready ∧ (23 : Byte).toNat = (23 : Slot).val ∧ (0 : Byte).toNat ≤ 6 ∧ (6 : Word).toNat ≤ 6
      ∧ (6 : Byte).toNat ≤ 6 ∧ (3 : Byte).toNat = 3 ∧ (4095 : Word).toNat ≤ 4095 ∧ (4 : Byte).toNat = 4 ∧ (7 : Word).toNat ≤ 7
      ∧ (5 : Byte).toNat = 5 ∧ (2 : Word).toNat ≤ 2 := by decide +kernel

theorem witness_SetCapAndReadPlant : (base .active 800).ready ∧ (base .active 800).idle := by decide +kernel

theorem witness_SetChannelAndRearmChannel :
    (base .active 800).ready ∧ (base .active 800).idle ∧ (10 : Byte).toNat = (10 : Chan).val ∧ (1 : Byte).toNat ≤ 1
      ∧ (4095 : Word).toNat ≤ 4095 ∧ ((base .active 800).channel 8).owner ≠ none ∧ ((base .active 800).channel 10).owner = none
      ∧ (0 : Byte).toNat = 0 ∧ ((onLine .hunting (some 10)).line (lineOf 10)).reply = some 10
      ∧ ((channel8 .tripped none none).channel 8).condition = .tripped
      ∧ ((base .active 800).channel 8).condition ≠ .tripped := by decide +kernel

theorem witness_ReadChannelAndReadLine :
    (base .active 800).ready ∧ (31 : Byte).toNat = (31 : Chan).val ∧ (7 : Byte).toNat = (7 : LineNo).val
      ∧ (8 : Byte).toNat = 8 := by decide +kernel

theorem witness_LoadProfileStoresProfile :
    (riding .riding 2).ready ∧ (2 : Byte).toNat = (2 : ProfileNo).val ∧ (8 : Byte).toNat = (8 : ProfileNo).val
      ∧ (1 : Byte).toNat ≤ 1 ∧ (1 : Byte).toNat = ProfileMode.any.code ∧ 1 ≤ (15 : Byte).toNat ∧ (15 : Byte).toNat ≤ 15
      ∧ (1000 : Word).toNat ≤ 1000 ∧ 1 ≤ (255 : Byte).toNat ∧ 1 ≤ (4095 : Word).toNat ∧ (4095 : Word).toNat ≤ 4095
      ∧ (riding .riding 2).seq.state ≠ .normal ∧ (riding .riding 2).seq.state ≠ .confirming
      ∧ (riding .riding 2).seq.inUse = some 2 ∧ (riding .riding 2).seq.inUse ≠ some 8 := by decide +kernel

theorem witness_ReadProfileAndReadGrid :
    (base .active 800).ready ∧ (8 : Byte).toNat = (8 : ProfileNo).val ∧ (0 : Byte).toNat = 0 ∧ (1 : Byte).toNat = 1 := by
  decide +kernel

theorem witness_ConfigureCommandsWriteSettings :
    (base .active 800).ready ∧ (1999 : Word).toNat ≤ 1999 ∧ (999 : Word).toNat ≤ 999 ∧ (1000 : Word).toNat ≤ 1000
      ∧ 1 ≤ (1 : Byte).toNat ∧ 2 ≤ (2 : Byte).toNat ∧ 1 ≤ (15 : Byte).toNat ∧ (15 : Byte).toNat ≤ 15 := by decide +kernel

theorem witness_ResumeLeavesLatched :
    (riding .latched 3).ready ∧ (riding .latched 3).seq.state = .latched ∧ (riding .latched 3).seq.inUse = some 3
      ∧ (riding .holding 3).seq.state ≠ .latched := by decide +kernel

theorem witness_SenseAttentionTakesHighest :
    (∀ n : SourceNo, ¬(((base .active 800).source n).ip = true ∧ ((base .active 800).source n).ie = true))
      ∧ sag.ready ∧ (sag.source 1).ip = true ∧ (sag.source 1).ie = true ∧ (∀ m : SourceNo, m ≤ 1 → (sag.source m).ius = false)
      ∧ (∀ m : SourceNo, m < 1 → ¬((sag.source m).ip = true ∧ (sag.source m).ie = true)) ∧ (sag.source 1).members = 0 :: []
      ∧ ((sag.occur srcRide).source 0).ip = true ∧ ((sag.occur srcRide).source 0).ie = true
      ∧ (∀ m : SourceNo, m ≤ 0 → ((sag.occur srcRide).source m).ius = false) := by decide +kernel

theorem witness_EndServiceClearsService :
    let s := after .abort (after .senseAttention sag)
    s.ready ∧ (2 : Byte).toNat = (2 : SourceNo).val ∧ (s.source 2).ius = false ∧ (s.source 1).ius = true
      ∧ (s.source 2).ip = true ∧ (s.source 2).ie = true
      ∧ ((after .abort (after (.endService 1) s)).source 2).ip = true
      ∧ ∀ m : SourceNo, m < 2 → ((after .abort (after (.endService 1) s)).source m).ius = false := by decide +kernel

theorem witness_AttentionMaskWritesEnables :
    sag.ready ∧ (0x06 : Byte).getLsbD (2 : SourceNo).val = true ∧ (sag.source 2).ip = true
      ∧ (∀ m : SourceNo, m ≤ 2 → (sag.source m).ius = false)
      ∧ ∀ n : SourceNo, (sag.source n).ip = true → (0xF9 : Byte).getLsbD n.val = false := by decide +kernel

theorem witness_FaultBankReadAndClear : sag.ready ∧ (3 : Byte).toNat = (3 : BankNo).val := by decide +kernel

theorem witness_OccurrencesAreKept :
    (sag.source 2).members.Pairwise (· < ·) ∧ 3 ∈ (sag.source 2).members ∧ sag.up ∧ (sag.source 2).ie = true
      ∧ ∀ k : SourceNo, k ≤ 2 → (sag.source k).ius = false := by decide +kernel

theorem witness_CapturesReachBanks :
    let s := (base .active 800).capture .lineError 2
    let t := s.capture .tracking 9
    ((base .active 800).bank FaultName.lost.bank).valid = false ∧ (s.bank 3).valid = true
      ∧ (s.bank 3).severity.code < FaultName.lost.severity.code
      ∧ FaultName.tracking.severity.code ≤ (s.bank 3).severity.code ∧ (s.bank 3).overflow = false
      ∧ (t.bank 3).overflow = true := by decide +kernel

theorem witness_RequestsBeginPasses :
    (base .active 800).engine.pass = .idle ∧ (flying .active 800).engine.pass ≠ .idle := by decide +kernel

/-- Slot 5 as an EXEMPT record cannot be dropped; a cap below its floor is a breach. -/
def breached : State :=
  let s := (base .active 800).setRecord 5 { stack .active 800 with exempt := true }
  { s with engine := { s.engine with e0 := 299 } }

theorem witness_DropsFollowTheDropOrder :
    let n := (after (.setCap 299) (base .active 800)).snapshot
    n.dropOrder = [5] ∧ n.dropped = [5] ∧ (base .active 800).snapshot.dropped = [] ∧ breached.snapshot.dropOrder = []
      ∧ (breached.snapshot.record 5).exempt = true ∧ (breached.snapshot.record 5).state = .active := by decide +kernel

/-- Slot 5 RELEASING under a cap below its present: a breach with no EXEMPT record. -/
theorem witness_DropsFollowTheDropOrder_leaving :
    let n := ((base .releasing 800).setEngine { (base .releasing 800).engine with e0 := 299 }).snapshot
    n.breach = true ∧ (n.record 5).state = .releasing ∧ 0 < (n.record 5).present
      ∧ (∀ i : Slot, ¬(((n.record i).state = .active ∨ (n.record i).state = .engaging) ∧ (n.record i).exempt = true))
      ∧ n.breachIndex = 5 := by decide +kernel

/-- Slot 5 of class B and slot 6 of class C under a cap of 650. -/
def two : State :=
  let s := base .active 800
  let t := s.setRecord 6 { stack .active 400 with tag := 43, cls := .c, feeders := [{ channel := 10, weight := 1 }] }
  { t.setChannel 10 { feeder 400 with owner := some 6 } with engine := { s.engine with e0 := 650 } }

theorem witness_GrantsFollowClasses_order :
    let n := two.snapshot
    (5 : Slot) ∈ n.survivors ∧ (6 : Slot) ∈ n.survivors ∧ n.breach = false ∧ n.grant 5 = 350 ∧ (n.record 5).demand = 800
      ∧ (n.record 5).cls.code < (n.record 6).cls.code ∧ n.grant 6 = 300 := by decide +kernel

/-- Slots 5 and 6 of class B under a cap of 1100: of the excess of 101 slot 5, with 500 of the room of 600, gives 84 and the leftover
unit, slot 6 gives 16. -/
theorem witness_GrantsFollowClasses_shares :
    let s := two.setRecord 6 { stack .active 400 with tag := 43, aim := 400, target := 400,
                                                      feeders := [{ channel := 10, weight := 1 }] }
    let n := (s.setEngine { s.engine with e0 := 1099 }).snapshot
    n.breach = false ∧ n.survivors = [] ++ 5 :: [6] ∧ (n.survivors.map fun j => (n.record j).demand).sum = n.cap + 0 + 101
      ∧ (n.record 5).demand - (n.record 5).floorValue = 500 ∧ (n.record 6).demand - (n.record 6).floorValue = 100
      ∧ n.grant 5 = 800 - (84 + 1) ∧ n.grant 6 = 400 - 16 := by decide +kernel

theorem witness_GrantsFollowClasses :
    let n := (base .active 800).snapshot
    let short := (after (.setCap 500) (base .active 800)).snapshot
    (5 : Slot) ∈ n.survivors ∧ n.breach = false ∧ n.demandSum n.survivors ≤ n.cap ∧ (5 : Slot) ∈ short.survivors
      ∧ short.breach = false ∧ short.grant 5 < (short.record 5).demand ∧ breached.snapshot.breach = true
      ∧ (5 : Slot) ∈ breached.snapshot.survivors ∧ (5 : Slot) ∈ (base .pending 0).snapshot.admitted
      ∧ (0 : Slot) ∉ n.survivors ∧ (0 : Slot) ∉ n.admitted := by decide +kernel

theorem witness_GrantsKeepWithinCap :
    let short := (after (.setCap 500) (base .active 800)).snapshot
    short.breach = false ∧ short.cap < short.demandSum short.survivors ∧ breached.snapshot.breach = true := by decide +kernel

theorem witness_ReadmissionTakesCandidates :
    let n := (base .pending 0).snapshot
    n.seqState = .normal ∧ n.breach = false ∧ n.demandSum n.survivors ≤ n.cap ∧ n.candidates = [] ++ 5 :: []
      ∧ n.admitted = [5] ∧ (5 : Slot) ∉ n.survivors ∧ (riding .riding 2).snapshot.seqState = .riding := by decide +kernel

theorem witness_PublicationWritesResults :
    (flying .active 800).up ∧ (flying .active 800).engine.pass = .running (base .active 800).snapshot
      ∧ (base .active 800).engine.pass = .idle := by decide +kernel

theorem witness_PublicationMovesRecords :
    (flying .active 800).up ∧ (flying .active 800).engine.pass = .running (base .active 800).snapshot
      ∧ exec (.publication .opened) (flying .active 800) = .next (after (.publication .opened) (flying .active 800)) :=
  ⟨by decide +kernel, by decide +kernel, rfl⟩

/-- A publication that drops slot 5, one that cuts it, one that cuts it below a share frozen since the snapshot, and one in RIDING
that brings it to 0. -/
theorem witness_PublicationMovesChannels :
    let low := after (.setCap 299) (base .active 800)
    let cut := after (.setCap 300) (base .active 800)
    let stale := cut.setChannel 8 { feeder 400 with condition := .stale, frozen := 400 }
    let leaving := (flying .releasing 800).setSeq { (flying .releasing 800).seq with state := .riding }
    low.up ∧ FeederLaw low ∧ (∀ i : Slot, ((low.record i).feeders.map fun f => f.channel).Nodup)
      ∧ low.engine.pass = .running low.snapshot ∧ (5 : Slot) ∈ low.snapshot.dropped ∧ cut.engine.pass = .running cut.snapshot
      ∧ cut.snapshot.grant 5 = 300 ∧ cut.frozenSum 5 ≤ 300 ∧ 300 < (cut.record 5).present ∧ 300 < stale.frozenSum 5
      ∧ (leaving.record 5).state = .releasing ∧ 0 < (leaving.record 5).present := by decide +kernel

theorem witness_WindowTakesWhatWaited :
    (window true false (some (.setCap 600)) 1).up
      ∧ (window true false (some (.setCap 600)) 1).engine.pass = .window true
      ∧ (window true false (some (.setCap 600)) 1).port.waiting = some (.setCap 600)
      ∧ (window true false (some (.setCap 600)) 1).ramp.deferred = 0 + 1
      ∧ (window false true (some (.setCap 600)) 0).ramp.deferred = 0 ∧ (window false true (some (.setCap 600)) 0).engine.rerun = true
      ∧ (window false false none 0).port.waiting = none ∧ (window false false none 0).engine.rerun = false
      ∧ (window false false (some (.setCap 600)) 0).port.waiting = some (.setCap 600)
      ∧ (window false false none 0).engine.pass ≠ .window true
      ∧ (base .active 800).idle ∧ (∀ due : Bool, (base .active 800).engine.pass ≠ .window due)
      ∧ (flying .active 800).engine.pass = .running (base .active 800).snapshot := by decide +kernel

theorem witness_StepExpiryMovesRecords :
    (base .active 800).up ∧ (base .active 800).ramp.stepTimer ≠ none ∧ (base .active 800).idle
      ∧ FeederLaw (base .active 800) ∧ (flying .active 800).engine.pass ≠ .idle
      ∧ ({ base .active 800 with ramp := { stepTimer := none, deferred := 0 } } : State).ramp.stepTimer = none
      ∧ (∀ i : Slot, (((base .active 300).record i).feeders.map fun f => f.channel).Nodup)
      ∧ ((base .active 300).record 5).present < min ((base .active 300).record 5).grant ((base .active 300).ceff 5)
      ∧ ((base .releasing 300).record 5).present ≤ max ((base .releasing 300).record 5).floor ((base .releasing 300).frozenSum 5)
      ∧ max ((base .releasing 800).record 5).floor ((base .releasing 800).frozenSum 5)
        < ((base .releasing 800).record 5).present := by
  decide +kernel

theorem witness_EngageAndReleaseTimersExpire :
    ((timed .engaging).record 5).state = .engaging ∧ ((timed .engaging).record 5).engageTimer ≠ none
      ∧ ((timed .engaging).record 5).floor ≤ (timed .engaging).onlineSum 5
      ∧ (((timed .engaging).setChannel 8 Channel.blank).setChannel 9 Channel.blank).onlineSum 5
        < ((timed .engaging).record 5).floor
      ∧ ((timed .releasing).record 5).state = .releasing ∧ ((timed .releasing).record 5).releaseTimer ≠ none
      ∧ ((base .active 800).record 5).state ≠ .engaging := by decide +kernel

theorem witness_SplitPlacesPresent :
    let s := channel8 .stale none (some 50)
    let fs := (s.record 5).feeders
    (fs.map fun f => f.channel).Nodup ∧ (∀ f ∈ fs, 1 ≤ f.weight)
      ∧ (fs.map fun f => if (s.channel f.channel).condition = .stale then (s.channel f.channel).frozen else 0).sum
        ≤ (s.record 5).present
      ∧ (s.record 5).present ≤ (fs.map fun f => (s.channel f.channel).usable).sum
      ∧ fs.filter (fun f => decide ((s.channel f.channel).condition = .online)) = [] ++ { channel := 9, weight := 1 } :: []
      ∧ (800 - 400) * 1 / 1 < (s.channel 9).usable := by decide +kernel

/-- Section 3.9: a present of 1200 over three ONLINE feeders of weights 2, 1 and 1 and usable capacities 500, 500 and 300. -/
def splitExample : State :=
  let s := (base .active 800).setRecord 5 { stack .active 1200 with
    ceiling := 1200, feeders := [{ channel := 8, weight := 2 }, { channel := 9, weight := 1 }, { channel := 10, weight := 1 }] }
  ((s.setChannel 8 { feeder 0 with capacity := 500 }).setChannel 9 { feeder 0 with capacity := 500 }).setChannel 10
    { feeder 0 with capacity := 300 }

/-- Its first round fixes the first and the third, and its next one none. -/
theorem witness_SplitPlacesPresent_rounds :
    let fs := (splitExample.record 5).feeders
    OpensRound splitExample 5 fs 1200 ∧ OpensRound splitExample 5 [{ channel := 9, weight := 1 }] 400
      ∧ (((splitExample.reSplit 5).channel 8).share, ((splitExample.reSplit 5).channel 9).share,
          ((splitExample.reSplit 5).channel 10).share) = (500, 400, 300) := by
  refine ⟨.first, .next (splitExample.record 5).feeders [{ channel := 8, weight := 2 }, { channel := 10, weight := 1 }] _ 1200 4
    .first ?_ ?_ ?_ ?_, ?_⟩ <;> decide +kernel

theorem witness_CapacityEventsReachTheRecord :
    let s := (base .active 800).setChannel 8 { feeder 0 with condition := .lost }
    let t := s.setChannel 9 { feeder 0 with condition := .lost }
    let u := s.setRecord 5 (stack .releasing 800)
    let v := t.setRecord 5 (stack .releasing 800)
    (s.channel 10).owner = none ∧ (s.channel 8).owner = some 5 ∧ (s.record 5).state = .active ∧ (t.record 5).state = .active
      ∧ t.carrying 5 < (t.record 5).floor ∧ (s.record 5).floor ≤ s.carrying 5 ∧ s.carrying 5 < (s.record 5).present
      ∧ ((base .active 800).record 5).present ≤ (base .active 800).carrying 5
      ∧ (u.record 5).state = .releasing ∧ 0 < (u.record 5).present ∧ u.carrying 5 < (u.record 5).present
      ∧ v.carrying 5 < (v.record 5).floor ∧ ((base .shed 0).record 5).state = .shed
      ∧ ((base .free 0).record 5).state = .free := by decide +kernel

theorem witness_FetchReportsChannel :
    (base .active 800).hears (lineOf 8) ∧ ((base .active 800).line (lineOf 8)).receiver = .hunting
      ∧ ((base .active 800).channel 8).enabled = true ∧ ((base .active 800).channel 31).enabled = false
      ∧ ((base .active 800).line (lineOf 31)).receiver = .hunting := by decide +kernel

theorem witness_BadFramesAreFlagged :
    (base .active 800).hears 2 ∧ (base .active 800).hearsGrid ∧ ((base .active 800).line 2).receiver = .hunting
      ∧ ((onLine (.sending [0xE0, 0, 0, 0, 0x20] 1) none).line 2).receiver = .sending [0xE0, 0, 0, 0, 0x20] 1
      ∧ ((onLine (.receiving [0xC0]) none).line 2).receiver = .receiving [0xC0]
      ∧ (base .active 800).grid.receiver = .hunting ∧ checkSum (gridBytes 0x71 1002 12 0xFFFF 0xF4) ≠ 0
      ∧ checkSum (gridBytes 0x70 1002 12 0xFFFF 0xF4) = 0 ∧ (0x70 : Byte).getLsbD 0 = false
      ∧ (after (.gridLineCharacter 0xA5) (base .active 800)).grid.receiver = .receiving [0xA5] := by decide +kernel

theorem witness_ReplyCarriesGrant :
    ((onLine .hunting (some 9)).line 2).receiver = .hunting ∧ ((onLine .hunting (some 9)).line 2).reply = some 9
      ∧ ((onLine .hunting (some 9)).channel 9).owner = some 5 ∧ ((onLine .hunting (some 9)).record 5).state ≠ .free
      ∧ ((onLine .hunting (some 9)).channel 9).condition ≠ .stale ∧ ((onLine .hunting (some 10)).channel 10).owner = none
      ∧ ((channel8 .stale none (some 50)).channel 8).condition = .stale
      ∧ ((channel8 .stale none (some 50)).record 5).state = .active
      ∧ ((onLine (.receiving [0xC0]) none).line 2).receiver ≠ .hunting
      ∧ ((onLine (.sending [0xE0, 0, 0, 0, 0x20] 1) none).line 2).receiver = .sending [0xE0, 0, 0, 0, 0x20] 1 := by
  decide +kernel

theorem witness_StaleAndLostTimersExpire :
    ((base .active 800).channel 8).condition = .online ∧ ((base .active 800).channel 8).staleTimer ≠ none
      ∧ ((channel8 .stale none (some 50)).channel 8).condition = .stale
      ∧ ((channel8 .stale none (some 50)).channel 8).lostTimer ≠ none ∧ 0 < ((channel8 .stale none (some 50)).channel 8).frozen
      ∧ ((channel8 .notReady none (some 50)).channel 8).condition = .notReady
      ∧ ((channel8 .notReady none (some 50)).channel 8).lostTimer ≠ none
      ∧ ((base .active 800).channel 10).condition = .idle := by decide +kernel

/-- R131: a channel STALE with frozen share 0 and a clamp. -/
def clampedStale : State :=
  (base .active 800).setChannel 8 { feeder 0 with condition := .stale, clamp := some 100, staleTimer := none, lostTimer := some 50 }

theorem witness_StaleAndLostTimersExpire_clamp :
    (clampedStale.channel 8).condition = .stale ∧ (clampedStale.channel 8).frozen = 0 ∧ (clampedStale.channel 8).clamp ≠ none
      ∧ (clampedStale.channel 8).lostTimer ≠ none := by decide +kernel

theorem witness_CharactersMakeFrames :
    (base .active 800).hears 2 ∧ (base .active 800).hearsGrid ∧ ((base .active 800).line 2).receiver = .hunting
      ∧ 0xC0 ≤ (0xC0 : Byte).toNat
      ∧ (0xC3 : Byte).toNat ≤ 0xC3 ∧ (0xBF : Byte).toNat < 0xC0 ∧ 0xC3 < (0xC4 : Byte).toNat
      ∧ ((onLine (.receiving [0xC1, 0x81]) none).line 2).receiver = .receiving [0xC1, 0x81]
      ∧ ((onLine (.receiving [0xC1, 0x81, 0x90]) none).line 2).receiver = .receiving [0xC1, 0x81, 0x90]
      ∧ (0xC1 + 0x81 + 0x90 + 0x2E) % 256 = 0 ∧ (0xC1 + 0x81 + 0x90 + 0x2F) % 256 ≠ 0
      ∧ ((onLine (.sending [0xE0, 0, 0, 0, 0x20] 4) none).line 2).receiver = .sending [0xE0, 0, 0, 0, 0x20] 4
      ∧ ([0xE0, 0, 0, 0, 0x20] : List Byte)[4]? = some 0x20 ∧ ([0xE0, 0, 0, 0, 0x20] : List Byte)[4]? ≠ some 0x21
      ∧ fetchBytes 9 true false false 400 = [0xC1, 0x81] ++ [0x90, 0x2E]
      ∧ (base .active 800).grid.receiver = .hunting
      ∧ gridBytes 0x71 1002 12 0xFFFF 0xF3
        = ([0xA5, 0x71] ++ bytes2 1002 ++ bytes2 12 ++ bytes2 0xFFFF) ++ [0xF3] := by decide +kernel

theorem witness_GridFrameIsTaken :
    classified.hearsGrid ∧ classified.grid.receiver = .hunting
      ∧ checkSum ([0xA5, 0x81] ++ bytes2 780 ++ bytes2 65 ++ bytes2 0xFFF8 ++ [0x93]) = 0 ∧ (0x81 : Byte).getLsbD 0 = true
      ∧ (-8 : Int) = max (-999) (min (0xFFF8 : Word).toInt 999)
      ∧ (928 : Int) = max (500 : Int) (1000 - (12 : Int) * (-(-8) - 2))
      ∧ (∀ p : ProfileNo, p < 3 → (classified.profile p).enabled = false) ∧ (classified.profile 3).enabled = true
      ∧ (classified.profile 3).mask = 0x82 ∧ (classified.profile 3).polarity = 0x82 ∧ (classified.profile 3).mode = .all
      ∧ classified.grid.seqRef = some 7 ∧ (0x81 : Byte).toNat / 16 = (7 + 1) % 16 := by decide +kernel

/-- Section 5.2: a run under way with candidate 3. -/
def confirming (count : Nat) : State :=
  classified.setSeq { classified.seq with state := .confirming, candidate := some 3, count := count }

theorem witness_FramesConfirmARide :
    classified.seq.state = .normal ∧ 1 < (classified.profile 3).confirm ∧ (confirming 1).seq.state = .confirming
      ∧ (confirming 1).seq.candidate = some 3 ∧ 1 + 1 < ((confirming 1).profile 3).confirm
      ∧ ((confirming 2).profile 3).confirm ≤ 2 + 1 ∧ (classified.profile 0).confirm ≤ 1 := by decide +kernel

theorem witness_FramesSteerAndReenterARide :
    (riding .riding 3).seq.state = .riding ∧ (riding .riding 3).seq.inUse = some 3 ∧ (2 : ProfileNo) < 3
      ∧ (3 : ProfileNo) ≤ 3 ∧ ((riding .riding 3).profile 3).tracking = false
      ∧ (((riding .riding 3).setSeq { (riding .riding 3).seq with
          profiles := (riding .riding 3).seq.profiles.set 3 { Profile.default with tracking := true } }).profile 3).tracking = true
      ∧ 800 * 400 / 1000 ≠ (riding .riding 3).seq.er := by decide +kernel

theorem witness_FramesSteerAndReenterARide_holds :
    (riding .holding 3).seq.inUse = some 3 ∧ (riding .holding 3).seq.state = .holding
      ∧ (riding .latched 3).seq.state = .latched ∧ (riding .restoring 3).seq.state = .restoring
      ∧ (riding .blind 8).seq.state = .blind ∧ (riding .blind 8).seq.inUse = some 8 ∧ 0 < (riding .blind 8).seq.i0
      ∧ State.reset.seq.state = .blind ∧ State.reset.seq.inUse = some 8 ∧ State.reset.seq.i0 = 0
      ∧ ReachesNormal State.reset State.reset.reachNormal := by decide +kernel

theorem witness_SequencerTimersExpire :
    classified.up ∧ classified.grid.silenceTimer ≠ none ∧ (base .active 800).grid.silenceTimer = none
      ∧ (riding .holding 3).seq.state = .holding ∧ (riding .holding 3).seq.holdTimer ≠ none
      ∧ (riding .holding 3).seq.inUse = some 3 ∧ (riding .holding 3).seq.resumeRequired = false
      ∧ (riding .restoring 3).seq.state = .restoring ∧ (riding .restoring 3).seq.restoreTimer ≠ none
      ∧ (riding .restoring 3).seq.inUse = some 3
      ∧ min ((riding .restoring 3).seq.er + ((riding .restoring 3).profile 3).step) 65535
        < (riding .restoring 3).engine.e0 * (riding .restoring 3).grid.f / 1000
      ∧ (base .active 800).seq.state ≠ .holding ∧ (base .active 800).seq.state ≠ .restoring := by decide +kernel

/-- A LATCHED hold and a restoration that reaches E1. -/
theorem witness_SequencerTimersExpire_ends :
    let s := riding .holding 3
    let t := s.setSeq { s.seq with resumeRequired := true }
    let u := (riding .restoring 3).setEngine { (riding .restoring 3).engine with e0 := 600 }
    t.seq.state = .holding ∧ t.seq.resumeRequired = true
      ∧ u.engine.e0 * u.grid.f / 1000 ≤ min (u.seq.er + (u.profile 3).step) 65535 := by decide +kernel

/-- The laws hold of the part of the examples with an event in its queue, and the step answers. -/
theorem witness_TagAndFeederLawsAreKept :
    TagLaw (queued .stepTimerExpiry) ∧ FeederLaw (queued .stepTimerExpiry) ∧ FreeLaw (queued .stepTimerExpiry) :=
  ⟨by decide +kernel, by decide +kernel, by decide +kernel⟩
theorem witness_RecordLawsAreKept :
    BandLaw (queued .stepTimerExpiry) ∧ FreeLaw (queued .stepTimerExpiry) ∧ PresentLaw (queued .stepTimerExpiry)
      ∧ WaitingLaw (queued .stepTimerExpiry) :=
  ⟨by decide +kernel, by decide +kernel, by decide +kernel, by decide +kernel⟩
theorem witness_PresentStaysUnderItsGrant :
    GrantLaw (queued .stepTimerExpiry) ∧ GrantLaw (flying .active 800) ∧ PassLaw (queued .stepTimerExpiry) :=
  ⟨by decide +kernel, by decide +kernel, trivial⟩
theorem witness_SumsStayUnderPublishedCap :
    let s := (queued .stepTimerExpiry).setEngine { (queued .stepTimerExpiry).engine with publishedCap := 8000 }
    CapLaw s ∧ ReleaseLaw s ∧ GrantLaw s ∧ PassLaw s ∧ PresentLaw s ∧ FreeLaw s ∧ WaitingLaw s ∧ (s.record 5).present = 800 :=
  ⟨by decide +kernel, fun i h => absurd h ((by decide +kernel : ∀ i : Slot, ((base .active 800).record i).state ≠ .releasing) i),
    by decide +kernel, trivial, by decide +kernel, by decide +kernel, by decide +kernel, by decide +kernel⟩
theorem witness_SharesSumToPresentAlways : ShareLaw (queued .stepTimerExpiry) := by decide +kernel
theorem witness_HeldLawIsKept : HeldLaw (queued .stepTimerExpiry) := by decide +kernel
theorem witness_SequencerLawsAreKept : ReentryLaw (queued .stepTimerExpiry) ∧ ConfirmationLaw (queued .stepTimerExpiry) :=
  ⟨by decide +kernel, by decide +kernel⟩
theorem witness_WaitingLawIsKept : WaitingLaw (queued .stepTimerExpiry) ∧ FlightLaw (queued .stepTimerExpiry) :=
  ⟨by decide +kernel, by decide +kernel⟩
theorem witness_AttentionLawIsKept : AttentionLaw (queued .stepTimerExpiry) := by decide +kernel
theorem witness_SeverityNeverFalls :
    BankLaw (queued .stepTimerExpiry) ∧ (queued .stepTimerExpiry).pending = .stepTimerExpiry :: []
      ∧ (queued .stepTimerExpiry).port.code ≠ some .clearFaultBank :=
  ⟨by decide +kernel, by decide +kernel, by decide +kernel⟩

/-- R205, R149, R200: after a reset in the middle of a transaction the first PUT of a row is ignored, so the second byte of this one
is taken as the code of CLEAR FAULT BANK: the case that statement excepts. With another second byte it does not. -/
theorem witness_SeverityNeverFalls_underway :
    let s := begun.capture .capBreach 5
    s.underway.port = true ∧ s.port.code = none ∧ sentBytes (.setTarget 0x59 0) = some (.setTarget, [0x59, 0x00, 0x00])
      ∧ ((after (.setTarget 0x59 0) s).bank 0).valid = false
      ∧ sentBytes (.setTarget 0x58 0) = some (.setTarget, [0x58, 0x00, 0x00])
      ∧ ((after (.setTarget 0x58 0) s).bank 0).valid = true := by decide +kernel

/-- A step of that part. -/
theorem witness_laws_step :
    step (queued .stepTimerExpiry) = .next (after .stepTimerExpiry (base .active 800)) := rfl

end Sys2Proof.Tests
end

/-! Attention (R184 to R192): what makes a source qualify, and END SERVICE. -/

namespace Sys2Proof.Machine

/-! ## Answering a command touches no source -/

@[simp] theorem answered_source (s : State) (c : CmdCode) (ps out : List Byte) (n : SourceNo) :
    (s.answered c ps out).source n = s.source n := rfl

/-! ## Qualifying sources and the ATTN pin (R188) -/

/-- R188: down to a pending, enabled source with nothing in service at or above it, the search for the highest qualifying source
meets no source in service, so it ends at that source or before it. -/
theorem firstQualifying_isSome {s : State} {n : SourceNo} (hip : (s.source n).ip = true) (hie : (s.source n).ie = true)
    (hfree : ∀ m : SourceNo, m ≤ n → (s.source m).ius = false) {ns : List SourceNo} (hs : ns.Pairwise (· < ·)) (hn : n ∈ ns) :
    (firstQualifying s ns).isSome = true := by
  induction ns with
  | nil => cases hn
  | cons k ks ih =>
    obtain ⟨hlt, hks⟩ := List.pairwise_cons.mp hs
    rcases List.mem_cons.mp hn with rfl | hn
    · simp [firstQualifying, hip, hie, hfree]
    · have hk : (s.source k).ius = false := hfree k (hlt n hn).le
      by_cases hq : ((s.source k).ip && (s.source k).ie) = true
      · simp [firstQualifying, hk, hq]
      · simpa [firstQualifying, hk, hq] using ih hks hn

theorem mem_sourcesDown : ∀ n : SourceNo, n ∈ sourcesDown := by decide

/-- R188: a pending, enabled source with nothing in service at or above it asserts ATTN. -/
theorem attn_of_pending {s : State} {n : SourceNo} (hup : s.up) (hip : (s.source n).ip = true) (hie : (s.source n).ie = true)
    (hfree : ∀ m : SourceNo, m ≤ n → (s.source m).ius = false) : s.attn = true := by
  have hq : s.qualifying.isSome = true := firstQualifying_isSome hip hie hfree (by decide) (mem_sourcesDown n)
  simp [State.attn, hup, hq]

/-! ## END SERVICE (R190) -/

theorem parseCmd_endService {b : Byte} {n : SourceNo} (hb : b.toNat = n.val) :
    parseCmd .endService [b] = some (.endService n) := by
  change (sourceOf b).map Cmd.endService = _
  rw [sourceOf_val hb, Option.map_some]

/-- R190: END SERVICE with a source in range is taken at once, whatever the Engine does. -/
theorem exec_endService {s : State} (hr : s.ready) {b : Byte} {n : SourceNo} (hb : b.toNat = n.val) :
    exec (.endService b) s =
      .next ((s.setSource n { s.source n with ius := false }).answered .endService [b] [0x00, 0x00]) := by
  rw [exec_taken (c := .endService b) hr rfl (parseCmd_endService hb) rfl]
  rfl

/-- A source that is not in service is left as it is when its IUS is cleared. -/
theorem setSource_clearService {s : State} {n : SourceNo} (h : (s.source n).ius = false) :
    s.setSource n { s.source n with ius := false } = s := by
  rw [← h]
  exact setSource_source_self s n

/-- R188, R190: with the service of a pending, enabled source cleared, and none in service above it, ATTN is asserted. -/
theorem attn_clearService {s : State} {n : SourceNo} (hup : s.up) (hip : (s.source n).ip = true) (hie : (s.source n).ie = true)
    (hfree : ∀ m : SourceNo, m < n → (s.source m).ius = false) (c : CmdCode) (ps out : List Byte) :
    ((s.setSource n { s.source n with ius := false }).answered c ps out).attn = true := by
  refine attn_of_pending (n := n) hup (by simp [hip]) (by simp [hie]) fun m hm => ?_
  rcases hm.eq_or_lt with rfl | hlt
  · simp
  · rw [answered_source, source_setSource_ne _ _ hlt.ne', hfree m hlt]

/-- Settles O24: END SERVICE is one write of a source, and `attn_clearService` says what it does to the pin. -/
theorem endServiceClearsService : Obligations.EndServiceClearsService := by
  intro b n s hr hb
  refine ⟨_, exec_endService hr hb, rfl, fun m hm => ?_, fun h => ?_, fun hip hie hfree => ?_⟩
  · rw [answered_source, source_setSource_ne _ _ hm.symm]
  · rw [setSource_clearService h]
  · obtain ⟨⟨hup, -⟩, -, -⟩ := hr
    exact attn_clearService hup hip hie hfree _ _ _

end Sys2Proof.Machine

/-! Fault banks (R194 to R198): what a capture makes of its bank, by the bank it meets. -/

namespace Sys2Proof.Machine

/-! ## What a capture makes of a bank (R195, R196) -/

section
variable {b : FaultBank} {x : FaultName} (index : Nat) (st : SeqState)

theorem FaultBank.take_empty (hv : b.valid = false) :
    b.take x index st =
      { valid := true, overflow := false, severity := x.severity, code := x.code, index := index, seqState := st } :=
  if_pos hv

theorem FaultBank.take_moreSevere (hv : b.valid = true) (hs : b.severity.code < x.severity.code) :
    b.take x index st =
      { valid := true, overflow := true, severity := x.severity, code := x.code, index := index, seqState := st } := by
  simp [FaultBank.take, hv, hs]

theorem FaultBank.take_notMoreSevere (hv : b.valid = true) (hs : x.severity.code ≤ b.severity.code) :
    b.take x index st = { b with overflow := true } := by
  simp [FaultBank.take, hv, Nat.not_lt.mpr hs]

/-- R197: a valid bank that has overflowed and is as severe as the fault is left alone. -/
theorem FaultBank.take_overflowed (hv : b.valid = true) (hs : x.severity.code ≤ b.severity.code) (ho : b.overflow = true) :
    b.take x index st = b := by
  rw [FaultBank.take_notMoreSevere index st hv hs, ← ho]

end

/-! ## What a capture makes of the state (R197) -/

@[simp] theorem setBank_bank_self (s : State) (n : BankNo) : s.setBank n (s.bank n) = s := by
  simp [State.setBank, State.bank, set_get_self]

/-- R197: a capture that changes its bank raises FAULT with the bank as member. -/
theorem captureAs_of_take_ne {s : State} {x : FaultName} {index : Nat} {st : SeqState} {b : FaultBank}
    (htake : (s.bank x.bank).take x index st = b) (hne : b ≠ s.bank x.bank) :
    s.captureAs x index st = (s.setBank x.bank b).occurMember srcFault x.bank.val := by
  subst htake
  exact if_pos ((FaultBank.raises_iff _ x index st).mpr hne)

/-- R197: a capture that leaves its bank as it was changes nothing. -/
theorem captureAs_of_take_eq {s : State} {x : FaultName} {index : Nat} {st : SeqState}
    (h : (s.bank x.bank).take x index st = s.bank x.bank) : s.captureAs x index st = s := by
  have hr : ¬(s.bank x.bank).raises x = true := fun hr => (FaultBank.raises_iff _ x index st).mp hr h
  simp only [State.captureAs, hr, Bool.false_eq_true, ↓reduceIte, h, setBank_bank_self]

/-- Settles O28: in each case the capture writes what `FaultBank.take` makes of the bank, and raises FAULT exactly where that is not
the bank as it was: by its valid flag, its severity or its overflow. -/
theorem capturesReachBanks : Obligations.CapturesReachBanks := by
  refine ⟨fun s x index st => ⟨fun hv => ?filled, rfl⟩, fun s x index st b hb hv => ?_, fun x => by cases x <;> rfl⟩
  case filled =>
    exact captureAs_of_take_ne (FaultBank.take_empty index st hv)
      fun h => Bool.noConfusion ((congrArg FaultBank.valid h).trans hv)
  subst hb
  refine ⟨fun hs => ?replaced, fun hs ho => ?overflows, fun hs ho => ?leftAlone⟩
  case replaced =>
    exact captureAs_of_take_ne (FaultBank.take_moreSevere index st hv hs)
      fun h => hs.ne' (congrArg (fun b => b.severity.code) h)
  case overflows =>
    exact captureAs_of_take_ne (FaultBank.take_notMoreSevere index st hv hs)
      fun h => Bool.noConfusion ((congrArg FaultBank.overflow h).trans ho)
  case leftAlone => exact captureAs_of_take_eq (FaultBank.take_overflowed index st hv hs ho)

end Sys2Proof.Machine


/-! The machine and its resets: one step (chapter 0), the reset values of every block, and what a reset row does (R205). -/

namespace Sys2Proof.Machine

/-! ## One step -/

/-- Settles O1: the queue's front is the one thing `step` reads. -/
theorem stepTakesFrontCommand : Obligations.StepTakesFrontCommand := by
  refine ⟨fun s c rest h => ?_, fun s h => ?_⟩
  · simp only [step, h]
    rfl
  · simp only [step, h]

/-! ## The reset values, entry by entry -/

theorem get_replicate {α : Type} {n : Nat} (x : α) (i : Fin n) : (Vector.replicate n x).get i = x := by
  simp [Vector.get_eq_getElem]

@[simp] theorem reset_record (i : Slot) : State.reset.record i = DrawRecord.free := get_replicate _ i
@[simp] theorem reset_channel (c : Chan) : State.reset.channel c = Channel.blank := get_replicate _ c
@[simp] theorem reset_line (l : LineNo) : State.reset.line l = Line.blank := get_replicate _ l
@[simp] theorem reset_source (n : SourceNo) : State.reset.source n = AttentionSource.initial := get_replicate _ n
@[simp] theorem reset_bank (b : BankNo) : State.reset.bank b = FaultBank.empty := get_replicate _ b

/-- R95, R93: only the silence profile differs from the others after reset. -/
theorem reset_profile (p : ProfileNo) :
    State.reset.profile p = if p = 8 then Profile.silence else Profile.default := by
  revert p
  decide

/-- Settles O2: the tables entry by entry, the single blocks as they are written in `State.reset`. -/
theorem resetLeavesResetValues : Obligations.ResetLeavesResetValues := by
  refine ⟨reset_record, reset_channel, reset_line, rfl, rfl, rfl, fun p => ?_, rfl, rfl, rfl, reset_source, reset_bank,
    by decide, by decide⟩
  rw [reset_profile]
  split <;> rfl

/-- Settles O3: after reset every record is FREE, every channel unbound, every source and bank empty, and the Engine idle. -/
theorem lawsHoldAfterReset : Obligations.LawsHoldAfterReset := by
  have hlive : DrawRecord.free.live = false := rfl
  have hfeeders : DrawRecord.free.feeders = [] := rfl
  refine ⟨?tag, ?feeder, ?band, fun i _ => reset_record i, ?present, ?grant, fun _ => by decide, ?release, trivial, ?share,
    ?held, by decide, by decide, by decide, by decide, by decide, fun b _ => reset_bank b⟩
  case tag => intro i j hi; simp [hlive] at hi
  case feeder => intro i c; simp [hfeeders, Channel.blank]
  case band => intro i hi; simp [hlive] at hi
  case present => intro i hi; simp [DrawRecord.free] at hi
  case grant => intro i; simp [DrawRecord.free]
  case release => intro i hi; simp [DrawRecord.free] at hi
  case share =>
    refine ⟨fun i => ?_, fun c => by simp [Channel.blank]⟩
    simp [State.frozenSum, State.carrying, State.feederSum, DrawRecord.free]
  case held => intro i; simp [DrawRecord.free, DrawRecord.live]

/-! ## While a reset lasts, and what is under way at its end (R205) -/

theorem transact_reset {s : State} (h : s.resetState ≠ .running) (out : Byte) (f : State → State) : s.transact out f = s :=
  if_neg h

theorem putAll_reset {s : State} (h : s.resetState ≠ .running) (bs : List Byte) : s.putAll bs = s := by
  induction bs with
  | nil => rfl
  | cons b bs ih =>
    simp only [State.putAll, List.foldl_cons, transact_reset h] at ih ⊢
    exact ih

theorem whileRunning_reset {s : State} (h : s.resetState ≠ .running) (f : State → State) : whileRunning s f = .next s := by
  rw [whileRunning, if_neg h]

theorem whileRunning_up {s : State} (h : s.up) (f : State → State) : whileRunning s f = .next (f s) := by
  rw [whileRunning, if_pos h]

/-- Every row but the reset rows acts through the guard of the port's transactions or through that of the events. -/
theorem exec_guarded {c : Instr} (h1 : c ≠ .powerOnReset) (h2 : c ≠ .pinReset) (h3 : ∀ begun : Underway, c ≠ .endOfReset begun) :
    (∃ (out : State → Byte) (f : State → State → State), ∀ s, exec c s = .next (s.transact (out s) (f s)))
      ∨ (∃ bs : List Byte, ∀ s, exec c s = .next (s.putAll bs)) ∨ ∃ f : State → State, ∀ s, exec c s = whileRunning s f := by
  cases hs : sentBytes c with
  | some b => exact .inr (.inl ⟨b.1.byte :: b.2, exec_sent hs⟩)
  | none =>
    cases c with
    | powerOnReset => exact absurd rfl h1
    | pinReset => exact absurd rfl h2
    | endOfReset begun => exact absurd rfl (h3 begun)
    | put | take | abort | unknownSelector => exact .inl ⟨fun s => s.dataOut _ _, fun s t => t.actOn _ _ _, fun s => rfl⟩
    | transactionCutShort => exact .inl ⟨fun s => s.sdo, fun _ => State.slipped, fun s => rfl⟩
    | publication | stepTimerExpiry | engageTimerExpiry | releaseTimerExpiry | fetch | fetchDiscard | fetchTimeLimit
    | rectifierCharacterError | replyBegin | grantComplete | collision | staleTimerExpiry | lostTimerExpiry | gridFrame
    | gridFrameTimeLimit | gridCharacterError | silenceTimerExpiry | holdTimerExpiry | restoreTimerExpiry
    | rectifierLineCharacter | gridLineCharacter => exact .inr (.inr ⟨_, fun s => rfl⟩)
    | _ => simp [sentBytes] at hs

/-- R205, R145: while a reset lasts every row but the three reset rows leaves the part as it is. -/
theorem exec_reset {c : Instr} {s : State} (h : s.resetState ≠ .running) (h1 : c ≠ .powerOnReset) (h2 : c ≠ .pinReset)
    (h3 : ∀ begun : Underway, c ≠ .endOfReset begun) : exec c s = .next s := by
  rcases exec_guarded h1 h2 h3 with ⟨out, f, hc⟩ | ⟨bs, hc⟩ | ⟨f, hc⟩
  · rw [hc, transact_reset h]
  · rw [hc, putAll_reset h]
  · rw [hc, whileRunning_reset h]

/-- R205: END_OF_RESET, and the two resets, leave the reset values of every block. -/
theorem exec_endOfReset {s : State} (h : s.resetState ≠ .running) (begun : Underway) :
    exec (.endOfReset begun) s = .next (s.restarted s.banks .running (some Config.stepPeriod) begun) :=
  congrArg _ (if_neg h)

theorem exec_pinReset {s : State} (h : s.resetState ≠ .powerHeld) :
    exec .pinReset s = .next (s.restarted s.banks .pinHeld none Underway.nothing) :=
  congrArg _ (if_neg h)

/-- Settles O4: the reset rows by their definitions, every other row during a reset by `exec_reset`, and what was under way by the
guards of the port and of the lines. -/
theorem resetsRestartAndHoldThePart : Obligations.ResetsRestartAndHoldThePart := by
  refine ⟨fun s => ⟨rfl, exec_pinReset, fun h => congrArg _ (if_pos h), fun begun => ⟨fun h => exec_endOfReset h begun,
    fun h => congrArg _ (if_pos h)⟩⟩, fun c s h h1 h2 h3 => exec_reset h h1 h2 h3, fun s t hup => ⟨?port, ?lines, ?grid⟩⟩
  case port =>
    rintro hu rfl
    have ignored (out : Byte) (f : State → State) := transact_underway hup hu out f
    exact ⟨fun b early => congrArg _ (ignored _ _), fun early => congrArg _ (ignored _ _), congrArg _ (ignored _ _),
      fun x b => congrArg _ (ignored _ _), congrArg _ (ignored _ _)⟩
  case lines =>
    rintro l hu rfl
    refine ⟨fun b => ?_, fun d => ?_, ?_⟩
    · rw [exec, execRectifierLineCharacter, whileRunning_up hup, State.lineCharacter, hearLine_underway hu]
      rfl
    · rw [exec, execRectifierCharacterError, whileRunning_up hup, hearLine_underway hu]
      rfl
    · rw [exec, execFetchDiscard, whileRunning_up hup]
      cases (s.line l).receiver <;> simp only [hu, ↓reduceIte]
  case grid =>
    rintro hu rfl
    refine ⟨fun b => ?_, fun d => ?_⟩
    · rw [exec, execGridLineCharacter, whileRunning_up hup, State.gridCharacter, hearGrid_underway hu]
      rfl
    · rw [exec, execGridCharacterError, whileRunning_up hup, hearGrid_underway hu]
      rfl

end Sys2Proof.Machine


/-! The Supervisor Port by transactions: PUT in each of its states (R149 to R152), TAKE, ABORT and the rest (R145 to R157), and what
the pins and the main status byte say (R147, R188, R204). -/

namespace Sys2Proof.Machine

/-! ## PUT: which byte it is -/

/-- R145: a PUT that acts. -/
theorem exec_put {s : State} (h : s.attends) (b : Byte) (early : Bool) :
    exec (.put b early) s = .next ((s.putByte b early).setSdo 0x00) :=
  congrArg _ (transact_attends h _ _)

theorem putByte_slip {s : State} (h : s.port.phase ≠ .command) (b : Byte) (early : Bool) : s.putByte b early = s.slipped := by
  unfold State.putByte
  split
  · next hp => exact absurd hp h
  · rfl

theorem putByte_asCode {s : State} (hp : s.port.phase = .command) (hc : s.port.code = none) (b : Byte) (early : Bool) :
    s.putByte b early = s.putCode b := by
  simp only [State.putByte, hp, hc]

theorem putByte_asParam {s : State} {c : CmdCode} (hp : s.port.phase = .command) (hc : s.port.code = some c) (b : Byte)
    (early : Bool) : s.putByte b early = s.putParam c b early := by
  simp only [State.putByte, hp, hc]

theorem codeOf_unknown {b : Byte} (h : ∀ c : CmdCode, c.byte ≠ b) : codeOf b = none := by
  simp [codeOf, h]

theorem putCode_unknown {b : Byte} (h : ∀ c : CmdCode, c.byte ≠ b) (s : State) :
    s.putCode b = (s.setPort { s.port with slip := false }).complete invalidBytes := by
  simp only [State.putCode, codeOf_unknown h]

/-- R149: the code of a command with parameters is stored. -/
theorem putCode_stored {c : CmdCode} (h : c.paramCount ≠ 0) (s : State) :
    s.putCode c.byte =
      s.setPort { s.port with slip := false, code := some c, params := [], expected := c.paramCount } := by
  simp only [State.putCode, codeOf_byte, h, ↓reduceIte]
  rfl

theorem paramCount_eq_zero {c : CmdCode} : c.paramCount = 0 → c = .readPlant ∨ c = .resume ∨ c = .senseAttention := by
  cases c <;> simp [CmdCode.paramCount]

/-- R149, R151: the code of a command without parameters, put to a ready port, is the whole command. -/
theorem exec_put_whole {s : State} (hr : s.ready) {c : CmdCode} {cmd : Cmd} (hp : parseCmd c [] = some cmd)
    (hw : cmd.waits = false) (early : Bool) :
    exec (.put c.byte early) s = .next ((perform cmd s).1.answered c [] (perform cmd s).2) := by
  obtain ⟨hat, hph, hcode⟩ := hr
  have hsend : s.send c [] = (s.putByte c.byte false).setSdo 0x00 :=
    transact_attends hat 0x00 fun u => u.putByte c.byte false
  rw [← send_taken ⟨hat, hph, hcode⟩ c [] (paramsWhole_of_parse hp) cmd hp (by simp [hw]), hsend, exec_put hat,
    putByte_asCode hph hcode, putByte_asCode hph hcode]

/-! ## The parameter bytes -/

section
variable {s : State} {c : CmdCode} {b : Byte} {early : Bool}

/-- R149: a parameter byte short of the expected count is stored. -/
theorem putParam_stored (h11 : ¬(c = .openDraw ∧ s.port.params.length = 11)) (he : s.port.params.length + 1 ≠ s.port.expected) :
    s.putParam c b early = s.setPort { s.port with params := s.port.params ++ [b] } := by
  simp [State.putParam, h11, he]

/-- R150: the feeder count of OPEN DRAW, in its range and outside it. -/
theorem putParam_count (h11 : s.port.params.length = 11) (h1 : 1 ≤ b.toNat) (h4 : b.toNat ≤ 4) :
    s.putParam .openDraw b early =
      s.setPort { s.port with params := s.port.params ++ [b], expected := 12 + 2 * b.toNat } := by
  simp [State.putParam, h11, h1, h4]

theorem putParam_badCount (h11 : s.port.params.length = 11) (hb : b.toNat = 0 ∨ 4 < b.toNat) :
    s.putParam .openDraw b early =
      s.setPort { phase := .result, slip := s.port.slip, code := none, params := [], expected := 0, waiting := none,
                  result := invalidBytes, readPos := 0 } := by
  have hb' : ¬(1 ≤ b.toNat ∧ b.toNat ≤ 4) := by omega
  simp [State.putParam, h11, hb', State.complete]

/-- R149, R151: the parameter byte that completes the expected count begins EXECUTION. -/
theorem putParam_last (h11 : ¬(c = .openDraw ∧ s.port.params.length = 11)) (he : s.port.params.length + 1 = s.port.expected) :
    s.putParam c b early =
      (s.setPort { s.port with params := s.port.params ++ [b] }).beginExecution c (s.port.params ++ [b]) early := by
  have h12 : ¬(c = .openDraw ∧ (s.port.params ++ [b]).length = 12) := by simpa using h11
  have he' : (s.port.params ++ [b]).length = s.port.expected := by simpa using he
  rw [State.putParam, if_neg h12, if_pos he']

end

/-! ## EXECUTION in each state of the pass (R151, R152) -/

section
variable {s : State} {c : CmdCode} {ps : List Byte} {cmd : Cmd} {p : Port} {early : Bool}

/-- R151: parameter bytes that fail a range check, whatever order the outside gives. -/
theorem beginExecution_none (h : parseCmd c ps = none) : s.beginExecution c ps early = s.complete invalidBytes := by
  simp only [State.beginExecution, h]

theorem beginExecution_some (h : parseCmd c ps = some cmd) : s.beginExecution c ps early = s.startCmd cmd early := by
  simp only [State.beginExecution, h]

theorem takeCmd_setPort (s : State) (p : Port) (cmd : Cmd) :
    (s.setPort p).takeCmd cmd =
      { (perform cmd s).1 with
        port := { p with phase := .result, waiting := none, result := (perform cmd s).2, readPos := 0 }, sdo := s.sdo } :=
  takeCmd_setIo s p s.sdo cmd

/-- R151: a command that does not wait, or finds no pass in flight, is taken at once. -/
theorem startCmd_taken (h : cmd.waits = false ∨ s.engine.pass = .idle) : s.startCmd cmd early = s.takeCmd cmd := by
  rcases h with h | h
  · exact startCmd_notWaiting h s early
  · simp [State.startCmd, State.passStarting, State.takeOrWait, h, Pass.inFlight]

/-- R152: a command that waits while a pass runs, where that pass is not just starting or the outside has it start first. -/
theorem startCmd_running {n : Snapshot} (hw : cmd.waits = true) (hn : s.engine.pass = .running n)
    (h : early = false ∨ n ≠ s.snapshot ∨ s.engine.rerun = true) :
    s.startCmd cmd early = s.setPort { s.port with phase := .execution, waiting := some cmd } := by
  have hnot : ¬((early && cmd.waits && s.passStarting) = true) := by
    simp only [Bool.and_eq_true, passStarting_iff, hn, Pass.running.injEq]
    rintro ⟨⟨he, -⟩, hs, hr⟩
    rcases h with h | h | h
    · simp [h] at he
    · exact h hs
    · simp [h] at hr
  rw [State.startCmd, if_neg hnot]
  simp only [State.takeOrWait, hw, hn, Pass.inFlight, Bool.and_self, ↓reduceIte]

/-- R152, R47: a command that begins to wait in an open window is one that window does not take. -/
theorem startCmd_window {due : Bool} (hw : cmd.waits = true) (hn : s.engine.pass = .window due) :
    s.startCmd cmd early =
      (s.setPort { s.port with phase := .execution, waiting := some cmd }).setEngine { s.engine with pass := .window false } := by
  have hnot : s.passStarting = false := by simp [State.passStarting, hn]
  simp only [startCmd_notStarting hnot, State.takeOrWait, hw, hn, Pass.inFlight, Bool.and_self, ↓reduceIte]
  rfl

/-- R152: a command taken before the start of a pass that is just starting. -/
theorem startCmd_first (hw : cmd.waits = true) (hn : s.engine.pass = .running s.snapshot) (hr : s.engine.rerun = false) :
    s.startCmd cmd true = s.takeBeforeStart cmd := by
  simp [State.startCmd, hw, (passStarting_iff s).mpr ⟨hn, hr⟩]

end

/-! ## What a command that waits asks of the Engine -/

theorem updateFeeders_engine (s : State) (fs : List Feeder) (g : Channel → Channel) : (s.updateFeeders fs g).engine = s.engine := by
  rw [updateFeeders_eq]

theorem enterFree_engine (s : State) (i : Slot) : (s.enterFree i).engine = s.engine := by
  rw [enterFree_eq]; rfl

theorem dropReply_engine (s : State) (c : Chan) : (s.dropReply c).engine = s.engine := by
  unfold State.dropReply; dsimp only; split <;> rfl

/-- R164 to R175: a command of the seven that wait leaves the part as it is or ends with one pass request. -/
theorem perform_waiting {cmd : Cmd} (hw : cmd.waits = true) (s : State) :
    (perform cmd s).1 = s ∨ ∃ w : State, (perform cmd s).1 = w.requestPass ∧ w.engine.pass = s.engine.pass := by
  cases cmd with
  | openDraw p =>
    simp only [perform, performOpen]
    split
    · exact .inr ⟨_, rfl, by rw [updateFeeders_engine]; rfl⟩
    · exact .inl rfl
  | setTarget i target =>
    simp only [perform, performSetTarget]
    split
    · refine .inr ⟨_, rfl, ?_⟩
      split <;> rfl
    · exact .inl rfl
  | amendDraw i cls rank lock exempt up down =>
    simp only [perform, performAmend]
    split
    · exact .inl rfl
    · exact .inr ⟨_, rfl, rfl⟩
  | retireDraw i =>
    simp only [perform, performRetire]
    cases (s.record i).state
    case free | releasing => exact .inl rfl
    case pending | shed | faulted => exact .inr ⟨_, rfl, by rw [enterFree_engine]⟩
    case active | engaging => exact .inr ⟨_, rfl, rfl⟩
  | setCap e0 => exact .inr ⟨_, rfl, rfl⟩
  | setChannel c enabled capacity =>
    simp only [perform, performSetChannel]
    split
    · exact .inl rfl
    · refine .inr ⟨_, rfl, ?_⟩
      split
      · rfl
      · rw [dropReply_engine]; rfl
  | rearmChannel c =>
    simp only [perform, performRearm]
    split
    · exact .inr ⟨_, rfl, rfl⟩
    · exact .inl rfl
  | readDraw | scanDraws | readPlant | readChannel | readLine | loadProfile | readProfile | configureGrid | configureTiming | readGrid
  | resume | senseAttention | endService | setAttentionMask | readFaultBank | clearFaultBank => cases hw

/-- A snapshot does not read the pass state or the rerun flag. -/
theorem requestPass_snapshot (s : State) : s.requestPass.snapshot = s.snapshot := by
  by_cases h : s.engine.pass = .idle
  · rw [requestPass_idle h]; rfl
  · rw [requestPass_flying h]; rfl

/-- R44: a command that waits, taken on an idle Engine, leaves it idle or starts a pass from the state it leaves. -/
theorem perform_idle {cmd : Cmd} (hw : cmd.waits = true) {s : State} (hi : s.engine.pass = .idle) :
    (perform cmd s).1.engine.pass = .idle ∨ (perform cmd s).1.engine.pass = .running (perform cmd s).1.snapshot := by
  rcases perform_waiting hw s with h | ⟨w, h, hp⟩
  · exact .inl (by rw [h, hi])
  · right
    rw [h, requestPass_snapshot, requestPass_idle (hp.trans hi)]
    rfl

/-- Settles O5: which of the three kinds of byte a PUT is, and for the last byte of a command how EXECUTION finds the pass. -/
theorem putTransactionActsByPhase : Obligations.PutTransactionActsByPhase := by
  intro s b early hat
  refine ⟨fun hp => ?slip, fun hr hb => ?unknown, fun c hr hb h1 h2 h3 => ?code, fun c hp hc h11 he => ?stored,
    fun hp hc h11 h1 h4 => ?count, fun hp hc h11 hb => ?badCount, fun c hp hc h11 he hps => ?invalid,
    fun hr => ⟨exec_put_whole (c := .readPlant) hr rfl rfl early, exec_put_whole (c := .resume) hr rfl rfl early,
      exec_put_whole (c := .senseAttention) hr rfl rfl early⟩,
    fun c cmd ps hp hc h11 he hps hparse => ?last⟩
  case slip => rw [exec_put hat, putByte_slip hp]; rfl
  case unknown =>
    obtain ⟨-, hp, hc⟩ := hr
    rw [exec_put hat, putByte_asCode hp hc, putCode_unknown hb]; rfl
  case code =>
    obtain ⟨-, hp, hc⟩ := hr
    have hn : c.paramCount ≠ 0 := fun h0 => by
      rcases paramCount_eq_zero h0 with h | h | h
      exacts [h1 h, h2 h, h3 h]
    rw [exec_put hat, putByte_asCode hp hc, ← hb, putCode_stored hn]; rfl
  case stored => rw [exec_put hat, putByte_asParam hp hc, putParam_stored h11 he]; rfl
  case count => rw [exec_put hat, putByte_asParam hp hc, putParam_count h11 h1 h4]; rfl
  case badCount => rw [exec_put hat, putByte_asParam hp hc, putParam_badCount h11 hb]; rfl
  case invalid => rw [exec_put hat, putByte_asParam hp hc, putParam_last h11 he, beginExecution_none hps]; rfl
  case last =>
    subst hps
    obtain ⟨p, hport⟩ : ∃ p : Port, p = { s.port with params := s.port.params ++ [b] } := ⟨_, rfl⟩
    have start : exec (.put b early) s = .next (((s.setPort p).startCmd cmd early).setSdo 0x00) := by
      rw [hport, exec_put hat, putByte_asParam hp hc, putParam_last h11 he, beginExecution_some hparse]
    refine ⟨fun h => ?_, fun n hw hn h => ?_, fun due hw hn => ?_, fun u result hw hearly hn hr hu => ?_⟩
    · rw [start, startCmd_taken (s := s.setPort p) h, takeCmd_setPort, hport]; rfl
    · rw [start, startCmd_running (s := s.setPort p) hw hn h, hport]; rfl
    · rw [start, startCmd_window (s := s.setPort p) hw hn, hport]; rfl
    · subst hearly
      have hu' := perform_setIo cmd (s.setEngine { s.engine with pass := .idle }) p s.sdo
      rw [show perform cmd (s.setEngine { s.engine with pass := .idle }) = (u, result) from hu] at hu'
      rw [start, startCmd_first (s := s.setPort p) hw hn hr, takeBeforeStart_eq hu']
      rw [setIo_engine, hport]
      have hpass : u.engine.pass = .idle ∨ u.engine.pass = .running u.snapshot := by
        have := perform_idle hw (s := s.setEngine { s.engine with pass := .idle }) rfl
        rwa [show (perform cmd (s.setEngine { s.engine with pass := .idle })).1 = u from congrArg Prod.fst hu] at this
      rcases hpass with hpass | hpass
      · simp only [hpass, ne_eq, not_true_eq_false, decide_false]; rfl
      · simp only [hpass, ne_eq, reduceCtorEq, not_false_eq_true, decide_true]; rfl

/-! ## TAKE, ABORT and the transactions that are no transaction (R145, R146, R154, R156, R157) -/

section
variable {s : State}

theorem exec_take (h : s.attends) (early : Bool) : exec (.take early) s = .next ((s.takeByte early).setSdo (s.takeOut early)) :=
  congrArg _ (transact_attends h _ _)

/-- R145, R148: a TAKE judged outside RESULT, or before EXECUTION ended, is out of turn. -/
theorem exec_take_slip (h : s.attends) {early : Bool} (hn : s.takeInTurn early = false) :
    exec (.take early) s = .next (s.slipped.setSdo 0x00) := by
  simp only [exec_take h, State.takeByte, State.takeOut, hn, Bool.false_eq_true, ↓reduceIte]

theorem takeInTurn_result (h : s.port.phase = .result) : s.takeInTurn false = true := by
  simp [State.takeInTurn, h]

theorem takeOut_result (h : s.port.phase = .result) {b : Byte} (hb : s.port.result[s.port.readPos]? = some b) :
    s.takeOut false = b := by
  simp [State.takeOut, takeInTurn_result h, List.getD_eq_getElem?_getD, hb]

theorem takeOut_notResult (h : s.port.phase ≠ .result) : s.takeOut false = 0x00 := by
  simp [State.takeOut, State.takeInTurn, h]

end

/-- R146: what the row of the unknown selectors does for each selector. -/
theorem exec_unknownSelector {s : State} (h : s.attends) {x : Byte} (b : Byte) (h1 : x ≠ 0x3C) (h2 : x ≠ 0x5A) (h3 : x ≠ 0xA5)
    (h4 : x ≠ 0xC3) : exec (.unknownSelector x b) s = .next (s.slipped.setSdo 0x00) :=
  congrArg _ ((transaction_unknown s b false h1 h2 h3 h4).trans (transact_attends h _ _))

/-- Settles O6: whether the TAKE is in turn, and which transaction a selector names. -/
theorem takeAbortAndBadTransactions : Obligations.TakeAbortAndBadTransactions := by
  refine ⟨fun s b hat => ⟨fun hp hb hlt => ?next, fun hp hb heq => ?last, fun hp => ?notResult, ?early⟩,
    fun s hat => ⟨congrArg _ (transact_attends hat _ _), congrArg _ (transact_attends hat _ _), fun x b =>
      ⟨fun h1 h2 h3 h4 => exec_unknownSelector hat b h1 h2 h3 h4, congrArg _ (transact_attends hat _ _), rfl, rfl, rfl⟩⟩⟩
  case next =>
    rw [exec_take hat, takeOut_result hp hb, State.takeByte, if_pos (takeInTurn_result hp), if_neg (by omega)]
    rfl
  case last =>
    rw [exec_take hat, takeOut_result hp hb, State.takeByte, if_pos (takeInTurn_result hp), if_pos (by omega)]
    rfl
  case notResult => exact exec_take_slip hat (by simp [State.takeInTurn, hp])
  case early => exact exec_take_slip hat rfl

/-! ## The ATTN pin, the main status byte and SDO (R147, R188, R204, R205) -/

/-- R188: a qualifying source is pending, enabled, and has nothing in service at or above it. -/
theorem firstQualifying_some {s : State} {n : SourceNo} :
    ∀ {ns : List SourceNo}, ns.Pairwise (· < ·) → firstQualifying s ns = some n →
      n ∈ ns ∧ (s.source n).ip = true ∧ (s.source n).ie = true ∧ (∀ m ∈ ns, m ≤ n → (s.source m).ius = false)
        ∧ ∀ m ∈ ns, m < n → ¬((s.source m).ip = true ∧ (s.source m).ie = true) := by
  intro ns
  induction ns with
  | nil => intro _ h; cases h
  | cons k ks ih =>
    intro hs h
    obtain ⟨hlt, hks⟩ := List.pairwise_cons.mp hs
    simp only [firstQualifying] at h
    split at h
    · cases h
    · next hk =>
      have hk' : (s.source k).ius = false := by simpa using hk
      split at h
      · next hq =>
        obtain rfl : k = n := by simpa using h
        simp only [Bool.and_eq_true] at hq
        refine ⟨by simp, hq.1, hq.2, fun m hm hle => ?_, fun m hm hl => ?_⟩
        · rcases List.mem_cons.mp hm with rfl | hm
          · exact hk'
          · exact absurd (hlt m hm) (not_lt.mpr hle)
        · rcases List.mem_cons.mp hm with rfl | hm
          · exact absurd hl (lt_irrefl _)
          · exact absurd (hlt m hm) (not_lt.mpr hl.le)
      · next hq =>
        obtain ⟨hn, hip, hie, hius, hfirst⟩ := ih hks h
        refine ⟨by simp [hn], hip, hie, fun m hm hle => ?_, fun m hm hl => ?_⟩
        · rcases List.mem_cons.mp hm with rfl | hm
          · exact hk'
          · exact hius m hm hle
        · rcases List.mem_cons.mp hm with rfl | hm
          · simpa using hq
          · exact hfirst m hm hl

/-- R188: the ATTN pin. -/
theorem attn_iff (s : State) :
    s.attn = true ↔ s.up ∧ ∃ n : SourceNo, (s.source n).ip = true ∧ (s.source n).ie = true
      ∧ ∀ m : SourceNo, m ≤ n → (s.source m).ius = false := by
  refine ⟨fun h => ?_, fun ⟨hup, n, hip, hie, hfree⟩ => attn_of_pending hup hip hie hfree⟩
  simp only [State.attn, Bool.and_eq_true, decide_eq_true_eq] at h
  obtain ⟨n, hn⟩ := Option.isSome_iff_exists.mp h.2
  obtain ⟨-, hip, hie, hius, -⟩ := firstQualifying_some (by decide) hn
  exact ⟨h.1, n, hip, hie, fun m hm => hius m (mem_sourcesDown m) hm⟩

/-- The main status byte as a function of its items (section 10.4). -/
def statusOf (phase : Phase) (flying away attn slip : Bool) : Byte :=
  byteOf ((if phase.rft then 128 else 0) + (if phase.dir then 64 else 0) + 16 * phase.code + (if flying then 8 else 0)
    + (if away then 4 else 0) + (if attn then 2 else 0) + (if slip then 1 else 0))

theorem mainStatus_eq (s : State) :
    s.mainStatus = statusOf s.port.phase s.engine.pass.inFlight (decide (s.seq.state ≠ .normal)) s.attn s.port.slip := rfl

theorem statusOf_bits (phase : Phase) (flying away attn slip : Bool) :
    (statusOf phase flying away attn slip).getLsbD 7 = decide (phase ≠ .execution)
    ∧ (statusOf phase flying away attn slip).getLsbD 6 = decide (phase = .result)
    ∧ (statusOf phase flying away attn slip).getLsbD 5 = decide (phase = .result)
    ∧ (statusOf phase flying away attn slip).getLsbD 4 = decide (phase = .execution)
    ∧ (statusOf phase flying away attn slip).getLsbD 3 = flying
    ∧ (statusOf phase flying away attn slip).getLsbD 2 = away
    ∧ (statusOf phase flying away attn slip).getLsbD 1 = attn
    ∧ (statusOf phase flying away attn slip).getLsbD 0 = slip := by
  cases phase <;> revert flying away attn slip <;> decide

theorem inFlight_eq (p : Pass) : p.inFlight = decide (p ≠ .idle) := by
  cases p <;> simp [Pass.inFlight]

theorem selectorOf_other {x : Byte} (h1 : x ≠ 0x3C) (h3 : x ≠ 0xA5) : selectorOf x = .put ∨ selectorOf x = .abort ∨ selectorOf x = .unknown := by
  unfold selectorOf
  rw [if_neg (c := x = Config.statusSelector) h1, if_neg (c := x = Config.takeSelector) h3]
  split
  · exact .inl rfl
  · split
    · exact .inr (.inl rfl)
    · exact .inr (.inr rfl)

/-- Settles O7: ATTN by the first qualifying source, the status byte item by item, SDO by where chip select stands. -/
theorem attnPinAndMainStatus : Obligations.AttnPinAndMainStatus := by
  intro s
  obtain ⟨b7, b6, b5, b4, b3, b2, b1, b0⟩ :=
    statusOf_bits s.port.phase s.engine.pass.inFlight (decide (s.seq.state ≠ .normal)) s.attn s.port.slip
  refine ⟨attn_iff s, b7, b6, b5, b4, b3.trans (inFlight_eq _), b2, b1, b0, sdoOutput_high s, fun h => sdoOutput_reset h,
    fun hat => ?driven, rfl, fun b hp hb => takeOut_result hp hb, fun hp => takeOut_notResult hp, fun x h1 h3 => ?other⟩
  case driven =>
    have hup : s.resetState = .running := hat.1
    have hport : s.underway.port = false := hat.2
    refine ⟨by simp [State.sdoOutput, hup, hport], by simp [State.sdoOutput, hup, hport],
      fun b => by simp [State.sdoOutput, hup, hport], fun x data t ht => ?_⟩
    have hx : exec (.unknownSelector x data) s = .next ((s.actOn (selectorOf x) data false).setSdo (s.dataOut (selectorOf x) false)) :=
      congrArg _ (transact_attends hat _ _)
    obtain rfl := Host.Outcome.next.inj (hx.symm.trans ht)
    rfl
  case other => rcases selectorOf_other h1 h3 with h | h | h <;> rw [h] <;> rfl

end Sys2Proof.Machine


/-! How a command is judged (chapters 7 and 8): a row as the PUTs of its bytes, bytes that fail a range check, and the bytes of every
command read back as that command. -/

namespace Sys2Proof.Machine

/-! ## Rows as runs of transactions or characters (log entry 2) -/

/-- Rows that each end in a next state, one after the other. The statements write the same run with a match of their own. -/
theorem foldl_exec {α : Type} {k : α → Instr} {f : State → α → State} (h : ∀ u a, exec (k a) u = .next (f u a)) (as : List α)
    (s : State) :
    as.foldl (fun (out : Host.Outcome State Fault Refusal) a => match out with
      | .next u => exec (k a) u
      | out => out) (.next s) = .next (as.foldl f s) := by
  induction as generalizing s with
  | nil => rfl
  | cons a as ih =>
    refine Eq.trans ?_ (ih (f s a))
    exact congrArg (fun o => as.foldl (fun (out : Host.Outcome State Fault Refusal) a => match out with
      | .next u => exec (k a) u
      | out => out) o) (h s a)

/-! ## Bytes that fail a range check (R150, R151, R159) -/

theorem paramsWhole_openDraw {a b c up down : Byte} {floor ceiling target : Word} {fs : List (Byte × Byte)}
    (h1 : 1 ≤ fs.length) (h4 : fs.length ≤ 4) :
    paramsWhole .openDraw ([a, b, c] ++ wordBytes floor ++ wordBytes ceiling ++ wordBytes target
      ++ [up, down, byteOf fs.length] ++ fs.flatMap fun f => [f.1, f.2]) := by
  have hn : (byteOf fs.length).toNat = fs.length := toNat_byteOf_lt (by omega)
  have hl : (fs.flatMap fun f => [f.1, f.2]).length = 2 * fs.length := by
    simp [List.length_flatMap, Nat.mul_comm]
  refine ⟨byteOf fs.length, rfl, by omega, by omega, ?_⟩
  rw [List.length_append, hl, hn]
  rfl

/-- R150: an OPEN DRAW row with a feeder count in its range sends all the command takes; so does every other command row. -/
theorem paramsWhole_of_row {c : Instr} {code : CmdCode} {ps : List Byte} (h : sentBytes c = some (code, ps))
    (hfs : ∀ a b d e f g h i fs, c = .openDraw a b d e f g h i fs → 1 ≤ fs.length ∧ fs.length ≤ 4) : paramsWhole code ps := by
  by_cases hc : code = .openDraw
  · subst hc
    cases c with
    | openDraw a b d e f g u w fs =>
      simp only [sentBytes, Option.some.injEq, Prod.mk.injEq, true_and] at h
      obtain ⟨h1, h4⟩ := hfs _ _ _ _ _ _ _ _ _ rfl
      exact h ▸ paramsWhole_openDraw h1 h4
    | _ => simp [sentBytes] at h
  · exact paramsWhole_of_sent h hc

/-- R157: bytes put while a result is offered are slips. -/
theorem putAll_slips {s : State} (hat : s.attends) (hp : s.port.phase ≠ .command) {bs : List Byte} (hb : bs ≠ []) :
    s.putAll bs = s.slipped.setSdo 0x00 := by
  have slip : ∀ b, (s.transact 0x00 fun u => u.putByte b false) = s.slipped.setSdo 0x00 := fun b => by
    rw [transact_attends hat, putByte_slip hp]
  induction bs generalizing s with
  | nil => exact absurd rfl hb
  | cons b bs ih =>
    simp only [State.putAll, List.foldl_cons, slip] at ih ⊢
    by_cases hbs : bs = []
    · subst hbs; rfl
    · have hat' : (s.slipped.setSdo 0x00).attends := hat
      have hp' : (s.slipped.setSdo 0x00).port.phase ≠ .command := hp
      rw [ih hat' hp' hbs fun b => by rw [transact_attends hat', putByte_slip hp']]
      rfl

/-- R150: an OPEN DRAW whose feeder count is outside 1 to 4 ends at its twelfth byte; the rest are slips. -/
theorem send_badCount {s : State} (hr : s.ready) {qs rest : List Byte} (hq : qs.length = 11) {n : Byte}
    (hn : ¬(1 ≤ n.toNat ∧ n.toNat ≤ 4)) :
    s.send .openDraw (qs ++ n :: rest) =
      s.setIo { phase := .result, slip := decide (rest ≠ []), code := none, params := [], expected := 0, waiting := none,
                result := invalidBytes, readPos := 0 } 0x00 := by
  have hput : s.send .openDraw (qs ++ n :: rest)
      = (s.transact 0x00 fun u => u.putByte CmdCode.openDraw.byte false).putAll (qs ++ n :: rest) := rfl
  have hparams := putAll_params (c := .openDraw) (e := 12) hr qs [] (by simp [hq]) (by simp [hq])
  have hcount := putByte_badCount (e := 12) hr n hq hn
  simp only [State.putAll, List.nil_append] at hparams
  rw [hput, putByte_code hr, if_neg (by decide), show CmdCode.openDraw.paramCount = 12 from rfl]
  simp only [State.putAll, List.foldl_append, List.foldl_cons, hparams, hcount]
  by_cases hrest : rest = []
  · subst hrest; rfl
  · have hslips := putAll_slips (s := s.setIo
      { phase := .result, slip := false, code := none, params := [], expected := 0, waiting := none, result := invalidBytes,
        readPos := 0 } 0x00) hr.1 (by simp [State.setIo]) hrest
    simp only [State.putAll] at hslips
    simp only [hslips, ne_eq, hrest, not_false_eq_true, decide_true]
    rfl

/-- Settles O8: a row is its bytes sent whole; a bad feeder count is the one case in which they are not all taken. -/
theorem invalidCommandsChangeNothing : Obligations.InvalidCommandsChangeNothing := by
  refine ⟨fun c code ps s hs hr hfs hp => ?_, fun slot tag attrs floor ceiling target up down fs s hr hl hfs => ?_⟩
  · rw [exec_sent hs, send_invalid hr code ps (paramsWhole_of_row hs hfs) hp]
    rfl
  · have hn : (byteOf fs.length).toNat = fs.length := toNat_byteOf_lt (by omega)
    have hsend := send_badCount (qs := [slot, tag, attrs] ++ wordBytes floor ++ wordBytes ceiling ++ wordBytes target ++ [up, down])
      (n := byteOf fs.length) (rest := fs.flatMap fun f => [f.1, f.2]) hr rfl (by omega)
    have hrest : (fs.flatMap fun f => [f.1, f.2]) ≠ [] ↔ fs ≠ [] := by cases fs <;> simp
    simp only [hrest] at hsend
    exact congrArg _ hsend

/-! ## Taken or waiting (R151, R152) -/

/-- Settles O9: a row's bytes are its PUTs by the model, and `send_taken`, `send_waits` are the two things a command in range does. -/
theorem commandsAreTakenOrWait : Obligations.CommandsAreTakenOrWait := by
  refine ⟨fun cmd => by cases cmd <;> simp [Cmd.waits, Cmd.code], fun c code ps s hs => ⟨?_, fun cmd hr hp => ?_⟩⟩
  · rw [exec_sent hs]
    exact (foldl_exec (k := fun b => .put b) (fun u b => rfl) (code.byte :: ps) s).symm
  · have hwhole := paramsWhole_of_parse hp
    refine ⟨fun n hw hn => ?_, fun due hw hn => ?_, fun h => exec_taken hr hs hp ?_⟩
    · rw [exec_sent hs, send_waits hr code ps hwhole cmd hp (by simp [hw, hn, Pass.inFlight]), hn]
    · rw [exec_sent hs, send_waits hr code ps hwhole cmd hp (by simp [hw, hn, Pass.inFlight]), hn]
    · rcases h with h | h <;> simp [h, Pass.inFlight]

/-! ## Command bytes (R161 to R163, section 10.5) -/

section
variable {cls : DrawClass} {rank : Fin 8} {lock exempt : Bool}

/-- R162: the attribute byte reads back in its four fields. -/
theorem classOf_attrBits : classOf (attrBits cls rank lock exempt) = some cls := by
  cases cls <;> revert rank lock exempt <;> decide
theorem rankOf_attrBits : rankOf (attrBits cls rank lock exempt) = rank := by
  cases cls <;> revert rank lock exempt <;> decide
theorem bitOf_attrBits_lock : bitOf (attrBits cls rank lock exempt) 2 = lock := by
  cases cls <;> revert rank lock exempt <;> decide
theorem bitOf_attrBits_exempt : bitOf (attrBits cls rank lock exempt) 1 = exempt := by
  cases cls <;> revert rank lock exempt <;> decide

end

theorem toNat_le_255 (b : Byte) : b.toNat ≤ 255 := by omega

/-- R163: the parameter bytes of an OPEN DRAW whose fields lie in their ranges. -/
theorem parse_openDraw {slot tag attrs up down : Byte} {floor ceiling target : Nat} {fs : List Feeder} {i : Slot} {cls : DrawClass}
    (hslot : slot.toNat = i.val) (ht1 : 1 ≤ tag.toNat) (ht2 : tag.toNat ≤ 254) (hcls : classOf attrs = some cls)
    (hf : 1 ≤ floor) (hfc : floor ≤ ceiling) (hc : ceiling ≤ 4095) (htarget : target ≤ 4095) (hup : 1 ≤ up.toNat)
    (hdown : 1 ≤ down.toNat) (hl1 : 1 ≤ fs.length) (hl4 : fs.length ≤ 4) (hnd : (fs.map fun f => f.channel).Nodup)
    (hw : ∀ f ∈ fs, 1 ≤ f.weight ∧ f.weight ≤ 15) :
    parseCmd .openDraw ([slot, tag, attrs] ++ bytes2 floor ++ bytes2 ceiling ++ bytes2 target ++ [up, down, byteOf fs.length]
        ++ fs.flatMap fun f => [byteOf f.channel.val, byteOf f.weight])
      = some (.openDraw { slot := i, tag := tag.toNat, cls := cls, rank := rankOf attrs, lock := bitOf attrs 2,
                          exempt := bitOf attrs 1, floor := floor, ceiling := ceiling, target := target, upRate := up.toNat,
                          downRate := down.toNat, feeders := fs }) := by
  have hn : (byteOf fs.length).toNat = fs.length := toNat_byteOf_lt (by omega)
  have hlen : (fs.flatMap fun f => [byteOf f.channel.val, byteOf f.weight]).length = 2 * fs.length := by
    simp [List.length_flatMap, Nat.mul_comm]
  have hcount : 1 ≤ (byteOf fs.length).toNat ∧ (byteOf fs.length).toNat ≤ 4
      ∧ (fs.flatMap fun f => [byteOf f.channel.val, byteOf f.weight]).length = 2 * (byteOf fs.length).toNat := by omega
  refine (if_pos hcount).trans ?_
  rw [currentOf_bytes (by omega), currentOf_bytes hc, currentOf_bytes htarget]
  simp [openParams, slotOf_val hslot, inRange_some ht1 ht2, hcls, inRange_some hup (toNat_le_255 up),
    inRange_some hdown (toNat_le_255 down), feedersOf_bytes fs hw, hf, hfc, channelsDistinct, hnd]

theorem parse_profile {enabled mask polarity mode confirm tracking hold period : Byte} {retain step : Nat} {k : ProfileNo}
    {m : ProfileMode} {index : Byte} (hk : index.toNat = k.val) (he : enabled.toNat ≤ 1) (hm : mode.toNat = m.code)
    (hc1 : 1 ≤ confirm.toNat) (hc2 : confirm.toNat ≤ 15) (hr : retain ≤ 1000) (ht : tracking.toNat ≤ 1) (hh : 1 ≤ hold.toNat)
    (hp : 1 ≤ period.toNat) (hs1 : 1 ≤ step) (hs2 : step ≤ 4095) :
    parseCmd .loadProfile ([index, enabled, mask, polarity, mode, confirm] ++ bytes2 retain ++ [tracking, hold, period]
        ++ bytes2 step)
      = some (.loadProfile k { enabled := decide (enabled.toNat = 1), mask := mask, polarity := polarity, mode := m,
                               confirm := confirm.toNat, retain := retain, tracking := decide (tracking.toNat = 1),
                               hold := hold.toNat, period := period.toNat, step := step }) := by
  have e : parseCmd .loadProfile ([index, enabled, mask, polarity, mode, confirm] ++ bytes2 retain ++ [tracking, hold, period]
      ++ bytes2 step) = (nineOf index).bind fun index =>
        (profileOf enabled mask polarity mode confirm (byteOf (retain / 256)) (byteOf retain) tracking hold period
          (byteOf (step / 256)) (byteOf step)).bind fun profile => some (.loadProfile index profile) := rfl
  rw [e]
  simp [nineOf_val hk, profileOf, boolOf_le he, modeOf_code hm, inRange_some hc1 hc2, wordOf_bytes (show retain < 65536 by omega),
    inRange_some (Nat.zero_le _) hr, boolOf_le ht, inRange_some hh (toNat_le_255 hold), inRange_some hp (toNat_le_255 period),
    wordOf_bytes (show step < 65536 by omega), inRange_some hs1 hs2]

theorem parse_configureGrid {l1 l2 l3 high uf overFreq ub fmin : Nat} {db k silence : Byte} (h1 : l1 ≤ 1999) (h2 : l2 ≤ 1999)
    (h3 : l3 ≤ 1999) (h4 : high ≤ 1999) (h5 : uf ≤ 999) (h6 : overFreq ≤ 999) (h7 : ub ≤ 1000) (h8 : fmin ≤ 1000)
    (h9 : 1 ≤ silence.toNat) :
    parseCmd .configureGrid (bytes2 l1 ++ bytes2 l2 ++ bytes2 l3 ++ bytes2 high ++ bytes2 uf ++ bytes2 overFreq ++ bytes2 ub
        ++ [db, k] ++ bytes2 fmin ++ [silence])
      = some (.configureGrid { level1 := l1, level2 := l2, level3 := l3, high := high, uf := uf, overFreq := overFreq, ub := ub,
                               db := db.toNat, k := k.toNat, fmin := fmin, silence := silence.toNat }) := by
  have w (n : Nat) : wordOf (byteOf (n / 256)) (byteOf n) = n % 65536 := by simp only [wordOf, toNat_byteOf]; omega
  have e : parseCmd .configureGrid (bytes2 l1 ++ bytes2 l2 ++ bytes2 l3 ++ bytes2 high ++ bytes2 uf ++ bytes2 overFreq ++ bytes2 ub
      ++ [db, k] ++ bytes2 fmin ++ [silence]) = (gridSettingsOf (wordOf (byteOf (l1 / 256)) (byteOf l1))
        (wordOf (byteOf (l2 / 256)) (byteOf l2)) (wordOf (byteOf (l3 / 256)) (byteOf l3))
        (wordOf (byteOf (high / 256)) (byteOf high)) (wordOf (byteOf (uf / 256)) (byteOf uf))
        (wordOf (byteOf (overFreq / 256)) (byteOf overFreq)) (wordOf (byteOf (ub / 256)) (byteOf ub)) db k
        (wordOf (byteOf (fmin / 256)) (byteOf fmin)) silence).map Cmd.configureGrid := rfl
  rw [e, wordOf_bytes (show l1 < 65536 by omega), wordOf_bytes (show l2 < 65536 by omega),
    wordOf_bytes (show l3 < 65536 by omega), wordOf_bytes (show high < 65536 by omega), wordOf_bytes (show uf < 65536 by omega),
    wordOf_bytes (show overFreq < 65536 by omega), wordOf_bytes (show ub < 65536 by omega),
    wordOf_bytes (show fmin < 65536 by omega)]
  simp [gridSettingsOf, inRange_some (Nat.zero_le _) h1, inRange_some (Nat.zero_le _) h2, inRange_some (Nat.zero_le _) h3,
    inRange_some (Nat.zero_le _) h4, inRange_some (Nat.zero_le _) h5, inRange_some (Nat.zero_le _) h6,
    inRange_some (Nat.zero_le _) h7, inRange_some (Nat.zero_le _) h8, inRange_some h9 (toNat_le_255 silence)]

theorem parse_configureTiming {step stale lost engage release tolerance track limit : Byte} (h1 : 1 ≤ step.toNat)
    (h2 : 2 ≤ stale.toNat) (h3 : 1 ≤ lost.toNat) (h4 : 1 ≤ engage.toNat) (h5 : 1 ≤ release.toNat) (h6 : 1 ≤ track.toNat)
    (h7 : track.toNat ≤ 15) (h8 : 1 ≤ limit.toNat) (h9 : limit.toNat ≤ 15) :
    parseCmd .configureTiming [step, stale, lost, engage, release, tolerance, track, limit]
      = some (.configureTiming { stepPeriod := step.toNat, staleTime := stale.toNat, lostTime := lost.toNat,
                                 engageTime := engage.toNat, releaseTime := release.toNat, tolerance := tolerance.toNat,
                                 trackCount := track.toNat, reentryLimit := limit.toNat }) := by
  have e : parseCmd .configureTiming [step, stale, lost, engage, release, tolerance, track, limit]
      = (timingOf step stale lost engage release tolerance track limit).map Cmd.configureTiming := rfl
  rw [e]
  simp [timingOf, inRange_some h1 (toNat_le_255 step), inRange_some h2 (toNat_le_255 stale), inRange_some h3 (toNat_le_255 lost),
    inRange_some h4 (toNat_le_255 engage), inRange_some h5 (toNat_le_255 release), inRange_some h6 h7, inRange_some h8 h9]

theorem parse_setTarget {slot : Byte} {i : Slot} {w : Nat} (hs : slot.toNat = i.val) (hw : w ≤ 4095) :
    parseCmd .setTarget (slot :: bytes2 w) = some (.setTarget i w) := by
  have e : parseCmd .setTarget (slot :: bytes2 w) = (slotOf slot).bind fun slot =>
    (currentOf (byteOf (w / 256)) (byteOf w)).bind fun target => some (.setTarget slot target) := rfl
  simp [e, slotOf_val hs, currentOf_bytes hw]

theorem parse_amendDraw {slot attrs up down : Byte} {i : Slot} {cls : DrawClass} (hs : slot.toNat = i.val)
    (hcls : classOf attrs = some cls) (hup : 1 ≤ up.toNat) (hdown : 1 ≤ down.toNat) :
    parseCmd .amendDraw [slot, attrs, up, down]
      = some (.amendDraw i cls (rankOf attrs) (bitOf attrs 2) (bitOf attrs 1) up.toNat down.toNat) := by
  have e : parseCmd .amendDraw [slot, attrs, up, down] = (slotOf slot).bind fun slot => (classOf attrs).bind fun cls =>
    (inRange 1 255 up.toNat).bind fun upRate => (inRange 1 255 down.toNat).bind fun downRate =>
      some (.amendDraw slot cls (rankOf attrs) (bitOf attrs 2) (bitOf attrs 1) upRate downRate) := rfl
  simp [e, slotOf_val hs, hcls, inRange_some hup (toNat_le_255 up), inRange_some hdown (toNat_le_255 down)]

theorem parse_retireDraw {slot : Byte} {i : Slot} (hs : slot.toNat = i.val) :
    parseCmd .retireDraw [slot] = some (.retireDraw i) := congrArg (Option.map Cmd.retireDraw) (slotOf_val hs)
theorem parse_readDraw {slot : Byte} {i : Slot} (hs : slot.toNat = i.val) :
    parseCmd .readDraw [slot] = some (.readDraw i) := congrArg (Option.map Cmd.readDraw) (slotOf_val hs)
theorem parse_rearmChannel {b : Byte} {c : Chan} (hb : b.toNat = c.val) :
    parseCmd .rearmChannel [b] = some (.rearmChannel c) := congrArg (Option.map Cmd.rearmChannel) (chanOf_val hb)
theorem parse_readChannel {b : Byte} {c : Chan} (hb : b.toNat = c.val) :
    parseCmd .readChannel [b] = some (.readChannel c) := congrArg (Option.map Cmd.readChannel) (chanOf_val hb)
theorem parse_readLine {b : Byte} {l : Fin 9} (hb : b.toNat = l.val) :
    parseCmd .readLine [b] = some (.readLine l) := congrArg (Option.map Cmd.readLine) (nineOf_val hb)
theorem parse_readProfile {b : Byte} {p : ProfileNo} (hb : b.toNat = p.val) :
    parseCmd .readProfile [b] = some (.readProfile p) := congrArg (Option.map Cmd.readProfile) (nineOf_val hb)
theorem parse_readGrid {b : Byte} (hb : b.toNat ≤ 1) :
    parseCmd .readGrid [b] = some (.readGrid (decide (b.toNat = 1))) := congrArg (Option.map Cmd.readGrid) (boolOf_le hb)
theorem parse_readFaultBank {b : Byte} {n : BankNo} (hb : b.toNat = n.val) :
    parseCmd .readFaultBank [b] = some (.readFaultBank n) := congrArg (Option.map Cmd.readFaultBank) (bankOf_val hb)
theorem parse_clearFaultBank {b : Byte} {n : BankNo} (hb : b.toNat = n.val) :
    parseCmd .clearFaultBank [b] = some (.clearFaultBank n) := congrArg (Option.map Cmd.clearFaultBank) (bankOf_val hb)

theorem parse_scanDraws {b : Byte} {k : Fin 7} {w : Nat} (hb : b.toNat = k.val) (hw : w < 65536) (hk : scanValueOk k w = true) :
    parseCmd .scanDraws (b :: bytes2 w) = some (.scanDraws k w) := by
  have e : parseCmd .scanDraws (b :: bytes2 w) = (scanOf b).bind fun condition =>
    if scanValueOk condition (wordOf (byteOf (w / 256)) (byteOf w)) then
      some (.scanDraws condition (wordOf (byteOf (w / 256)) (byteOf w))) else none := rfl
  simp [e, scanOf_val hb, wordOf_bytes hw, hk]

theorem parse_setCap {w : Nat} (hw : w < 65536) : parseCmd .setCap (bytes2 w) = some (.setCap w) := by
  have e : parseCmd .setCap (bytes2 w) = some (.setCap (wordOf (byteOf (w / 256)) (byteOf w))) := rfl
  rw [e, wordOf_bytes hw]

theorem parse_setChannel {b enabled : Byte} {c : Chan} {w : Nat} (hb : b.toNat = c.val) (he : enabled.toNat ≤ 1) (hw : w ≤ 4095) :
    parseCmd .setChannel ([b, enabled] ++ bytes2 w) = some (.setChannel c (decide (enabled.toNat = 1)) w) := by
  have e : parseCmd .setChannel ([b, enabled] ++ bytes2 w) = (chanOf b).bind fun channel => (boolOf enabled).bind fun enabled =>
    (currentOf (byteOf (w / 256)) (byteOf w)).bind fun capacity => some (.setChannel channel enabled capacity) := rfl
  rw [e, chanOf_val hb, boolOf_le he, currentOf_bytes hw]
  rfl

/-! ## What passes the range checks is in range -/

theorem feedersOf_weights {bs : List Byte} {fs : List Feeder} (h : feedersOf bs = some fs) :
    (∀ f ∈ fs, 1 ≤ f.weight ∧ f.weight ≤ 15) ∧ bs.length = 2 * fs.length := by
  induction bs using feedersOf.induct generalizing fs with
  | case1 =>
    obtain rfl : fs = [] := by simpa [feedersOf] using h.symm
    simp
  | case2 b => simp [feedersOf] at h
  | case3 c w rest ih =>
    simp only [feedersOf, Option.bind_eq_bind, Option.bind_eq_some_iff, Option.some.injEq] at h
    obtain ⟨channel, -, weight, hw, gs, hgs, rfl⟩ := h
    obtain ⟨hweights, hlen⟩ := ih hgs
    obtain ⟨rfl, h1, h15⟩ := inRange_eq_some hw
    refine ⟨fun f hf => ?_, by simp [hlen]; omega⟩
    rcases List.mem_cons.mp hf with rfl | hf
    · exact ⟨h1, h15⟩
    · exact hweights f hf

/-- R159: a number that passed its range check is the one sent and lies in its range. -/
theorem inRange_iff {lo hi n m : Nat} : inRange lo hi n = some m ↔ m = n ∧ lo ≤ n ∧ n ≤ hi :=
  ⟨inRange_eq_some, fun ⟨e, h1, h2⟩ => by rw [e, inRange_some h1 h2]⟩

/-- R161, R162: the parameter bytes of a command in range read back as that command. -/
theorem parseCmd_params {cmd : Cmd} (h : cmd.inRange = true) : parseCmd cmd.code cmd.params = some cmd := by
  cases cmd with
  | openDraw p =>
    obtain ⟨slot, tag, cls, rank, lock, exempt, floor, ceiling, target, up, down, fs⟩ := p
    simp only [Cmd.inRange, OpenParams.inRange, Bool.and_eq_true, decide_eq_true_eq, List.all_eq_true, channelsDistinct] at h
    obtain ⟨⟨⟨ht1, ht2, hf, hfc, hc, htarget, hu1, hu2, hd1, hd2, hl1, hl4⟩, hw⟩, hnd⟩ := h
    have htag := toNat_byteOf_lt (n := tag) (by omega)
    have hup := toNat_byteOf_lt (n := up) (by omega)
    have hdown := toNat_byteOf_lt (n := down) (by omega)
    have := parse_openDraw (slot := byteOf slot.val) (tag := byteOf tag) (attrs := attrBits cls rank lock exempt)
      (up := byteOf up) (down := byteOf down) (i := slot) (toNat_byteOf_lt (by omega)) (by omega) (by omega) classOf_attrBits
      hf hfc hc htarget (by omega) (by omega) hl1 hl4 hnd hw
    rw [htag, hup, hdown, rankOf_attrBits, bitOf_attrBits_lock, bitOf_attrBits_exempt] at this
    exact this
  | setTarget i w => exact parse_setTarget (toNat_byteOf_lt (by omega)) (by simpa [Cmd.inRange] using h)
  | amendDraw i cls rank lock exempt up down =>
    simp only [Cmd.inRange, decide_eq_true_eq] at h
    have hup := toNat_byteOf_lt (n := up) (by omega)
    have hdown := toNat_byteOf_lt (n := down) (by omega)
    have := parse_amendDraw (slot := byteOf i.val) (attrs := attrBits cls rank lock exempt) (up := byteOf up)
      (down := byteOf down) (i := i) (toNat_byteOf_lt (by omega)) classOf_attrBits (by omega) (by omega)
    rw [hup, hdown, rankOf_attrBits, bitOf_attrBits_lock, bitOf_attrBits_exempt] at this
    exact this
  | retireDraw i => exact parse_retireDraw (toNat_byteOf_lt (by omega))
  | readDraw i => exact parse_readDraw (toNat_byteOf_lt (by omega))
  | scanDraws k w =>
    simp only [Cmd.inRange, Bool.and_eq_true, decide_eq_true_eq] at h
    exact parse_scanDraws (toNat_byteOf_lt (by omega)) (by omega) h.1
  | setCap w => exact parse_setCap (by simp only [Cmd.inRange, decide_eq_true_eq] at h; omega)
  | readPlant | resume | senseAttention | setAttentionMask => rfl
  | setChannel c enabled w =>
    have hw : w ≤ 4095 := by simpa [Cmd.inRange] using h
    have := parse_setChannel (b := byteOf c.val) (enabled := flagByte enabled) (c := c) (toNat_byteOf_lt (by omega))
      (by cases enabled <;> decide) hw
    cases enabled <;> exact this
  | rearmChannel c => exact parse_rearmChannel (toNat_byteOf_lt (by omega))
  | readChannel c => exact parse_readChannel (toNat_byteOf_lt (by omega))
  | readLine l => exact parse_readLine (toNat_byteOf_lt (by omega))
  | loadProfile k p =>
    obtain ⟨enabled, mask, polarity, mode, confirm, retain, tracking, hold, period, step⟩ := p
    simp only [Cmd.inRange, Profile.inRange, decide_eq_true_eq] at h
    have hconfirm := toNat_byteOf_lt (n := confirm) (by omega)
    have hhold := toNat_byteOf_lt (n := hold) (by omega)
    have hperiod := toNat_byteOf_lt (n := period) (by omega)
    have := parse_profile (index := byteOf k.val) (enabled := flagByte enabled) (mask := mask) (polarity := polarity)
      (mode := byteOf mode.code) (confirm := byteOf confirm) (retain := retain) (tracking := flagByte tracking)
      (hold := byteOf hold) (period := byteOf period) (step := step) (k := k) (m := mode) (toNat_byteOf_lt (by omega))
      (by cases enabled <;> decide) (by cases mode <;> rfl) (by omega) (by omega) (by omega) (by cases tracking <;> decide)
      (by omega) (by omega) (by omega) (by omega)
    rw [hconfirm, hhold, hperiod] at this
    cases enabled <;> cases tracking <;> exact this
  | readProfile k => exact parse_readProfile (toNat_byteOf_lt (by omega))
  | configureGrid g =>
    obtain ⟨l1, l2, l3, high, uf, overFreq, ub, db, k, fmin, silence⟩ := g
    simp only [Cmd.inRange, GridSettings.inRange, decide_eq_true_eq] at h
    obtain ⟨h1, h2, h3, h4, h5, h6, h7, hdb, hk, h8, h9, h10⟩ := h
    have hsilence := toNat_byteOf_lt (n := silence) (by omega)
    have := parse_configureGrid (db := byteOf db) (k := byteOf k) (silence := byteOf silence) h1 h2 h3 h4 h5 h6 h7 h8 (by omega)
    rwa [toNat_byteOf_lt (n := db) (by omega), toNat_byteOf_lt (n := k) (by omega), hsilence] at this
  | configureTiming t =>
    obtain ⟨step, stale, lost, engage, release, tolerance, track, limit⟩ := t
    simp only [Cmd.inRange, Timing.inRange, decide_eq_true_eq] at h
    have hb {n : Nat} (hn : n ≤ 255) : (byteOf n).toNat = n := toNat_byteOf_lt (by omega)
    have e1 := hb (n := step) (by omega)
    have e2 := hb (n := stale) (by omega)
    have e3 := hb (n := lost) (by omega)
    have e4 := hb (n := engage) (by omega)
    have e5 := hb (n := release) (by omega)
    have e6 := hb (n := tolerance) (by omega)
    have e7 := hb (n := track) (by omega)
    have e8 := hb (n := limit) (by omega)
    have := parse_configureTiming (step := byteOf step) (stale := byteOf stale) (lost := byteOf lost) (engage := byteOf engage)
      (release := byteOf release) (tolerance := byteOf tolerance) (track := byteOf track) (limit := byteOf limit)
      (by omega) (by omega) (by omega) (by omega) (by omega) (by omega) (by omega) (by omega) (by omega)
    rwa [e1, e2, e3, e4, e5, e6, e7, e8] at this
  | readGrid view => cases view <;> rfl
  | endService n => exact parseCmd_endService (toNat_byteOf_lt (by omega))
  | readFaultBank n => exact parse_readFaultBank (toNat_byteOf_lt (by omega))
  | clearFaultBank n => exact parse_clearFaultBank (toNat_byteOf_lt (by omega))

/-- R159: how many bytes a command other than OPEN DRAW has read where its range checks passed. -/
theorem length_of_parse {code : CmdCode} {ps : List Byte} {cmd : Cmd} (h : parseCmd code ps = some cmd) (hc : code ≠ .openDraw) :
    ps.length = code.paramCount := by
  have := paramsWhole_of_parse h
  rwa [paramsWhole, if_neg hc] at this

theorem wordOf_le (hi lo : Byte) : wordOf hi lo ≤ 65535 := by
  have := toNat_le_255 hi
  have := toNat_le_255 lo
  unfold wordOf
  omega

/-- What a passed list of range checks says of the fields it read. -/
theorem parse_openDraw_inRange {ps : List Byte} {cmd : Cmd} (h : parseCmd .openDraw ps = some cmd) :
    cmd.code = .openDraw ∧ cmd.inRange = true := by
  obtain ⟨n, hn, -, -, hl⟩ := paramsWhole_of_parse h
  match ps, hl with
  | slot :: tag :: attrs :: f1 :: f0 :: c1 :: c0 :: t1 :: t0 :: up :: down :: k :: rest, _ =>
    replace h : (if 1 ≤ k.toNat ∧ k.toNat ≤ 4 ∧ rest.length = 2 * k.toNat then (openParams slot tag attrs (currentOf f1 f0)
      (currentOf c1 c0) (currentOf t1 t0) up down rest).map Cmd.openDraw else none) = some cmd := h
    split at h
    case isFalse => cases h
    case isTrue hk =>
      simp only [openParams, currentOf, Option.map_eq_some_iff, Option.bind_eq_bind, Option.bind_eq_some_iff, inRange_iff] at h
      obtain ⟨p, ⟨i, -, tag, ⟨rfl, ht1, ht2⟩, cls, -, floor, ⟨rfl, -, -⟩, ceiling, ⟨rfl, -, hc⟩, target, ⟨rfl, -, htarget⟩, up,
        ⟨rfl, hu1, hu2⟩, down, ⟨rfl, hd1, hd2⟩, fs, hfs, hp⟩, rfl⟩ := h
      obtain ⟨hw, hlen⟩ := feedersOf_weights hfs
      split at hp
      case isFalse => cases hp
      case isTrue hq =>
        obtain ⟨hf, hfc, hnd⟩ := hq
        obtain rfl := Option.some.inj hp
        refine ⟨rfl, ?_⟩
        simp only [Cmd.inRange, OpenParams.inRange, Bool.and_eq_true, decide_eq_true_eq, List.all_eq_true]
        exact ⟨⟨by omega, hw⟩, hnd⟩

/-- R159: what passes the range checks of a code is a command of that code in range. -/
theorem inRange_of_parse {code : CmdCode} {ps : List Byte} {cmd : Cmd} (h : parseCmd code ps = some cmd) :
    cmd.code = code ∧ cmd.inRange = true := by
  by_cases hc : code = .openDraw
  · subst hc
    exact parse_openDraw_inRange h
  have hl := length_of_parse h hc
  cases code with
  | openDraw => exact absurd rfl hc
  | setTarget =>
    match ps, hl with
    | [slot, t1, t0], _ =>
      change (slotOf slot).bind (fun slot => (currentOf t1 t0).bind fun target => some (Cmd.setTarget slot target)) = _ at h
      simp only [currentOf, Option.bind_eq_some_iff, inRange_iff, Option.some.injEq] at h
      obtain ⟨i, -, w, ⟨rfl, -, hw⟩, rfl⟩ := h
      exact ⟨rfl, by simpa [Cmd.inRange] using hw⟩
  | amendDraw =>
    match ps, hl with
    | [slot, attrs, up, down], _ =>
      change (slotOf slot).bind (fun slot => (classOf attrs).bind fun cls => (inRange 1 255 up.toNat).bind fun upRate =>
        (inRange 1 255 down.toNat).bind fun downRate =>
          some (Cmd.amendDraw slot cls (rankOf attrs) (bitOf attrs 2) (bitOf attrs 1) upRate downRate)) = _ at h
      simp only [Option.bind_eq_some_iff, inRange_iff, Option.some.injEq] at h
      obtain ⟨i, -, cls, -, up, ⟨rfl, hu1, hu2⟩, down, ⟨rfl, hd1, hd2⟩, rfl⟩ := h
      exact ⟨rfl, by simp only [Cmd.inRange, decide_eq_true_eq]; omega⟩
  | scanDraws =>
    match ps, hl with
    | [condition, v1, v0], _ =>
      change (scanOf condition).bind (fun condition => if scanValueOk condition (wordOf v1 v0) then
        some (Cmd.scanDraws condition (wordOf v1 v0)) else none) = _ at h
      simp only [Option.bind_eq_some_iff] at h
      obtain ⟨k, -, hk⟩ := h
      split at hk
      · next hv =>
        obtain rfl := Option.some.inj hk
        exact ⟨rfl, by simp [Cmd.inRange, hv, wordOf_le]⟩
      · cases hk
  | setCap =>
    match ps, hl with
    | [e1, e0], _ =>
      obtain rfl : Cmd.setCap (wordOf e1 e0) = cmd := Option.some.inj h
      exact ⟨rfl, by simp [Cmd.inRange, wordOf_le]⟩
  | setChannel =>
    match ps, hl with
    | [channel, enabled, c1, c0], _ =>
      change (chanOf channel).bind (fun channel => (boolOf enabled).bind fun enabled => (currentOf c1 c0).bind fun capacity =>
        some (Cmd.setChannel channel enabled capacity)) = _ at h
      simp only [currentOf, Option.bind_eq_some_iff, inRange_iff, Option.some.injEq] at h
      obtain ⟨c, -, e, -, w, ⟨rfl, -, hw⟩, rfl⟩ := h
      exact ⟨rfl, by simpa [Cmd.inRange] using hw⟩
  | loadProfile =>
    match ps, hl with
    | [index, enabled, mask, polarity, mode, confirm, r1, r0, tracking, hold, period, s1, s0], _ =>
      change (nineOf index).bind (fun index =>
        (profileOf enabled mask polarity mode confirm r1 r0 tracking hold period s1 s0).bind fun profile =>
          some (Cmd.loadProfile index profile)) = _ at h
      simp only [profileOf, Option.bind_eq_bind, Option.bind_eq_some_iff, inRange_iff, Option.some.injEq] at h
      obtain ⟨k, -, p, ⟨enabled, -, mode, -, confirm, ⟨rfl, hc1, hc2⟩, retain, ⟨rfl, -, hr⟩, tracking, -, hold, ⟨rfl, hh1, hh2⟩, period,
        ⟨rfl, hp1, hp2⟩, step, ⟨rfl, hs1, hs2⟩, rfl⟩, rfl⟩ := h
      exact ⟨rfl, by simp only [Cmd.inRange, Profile.inRange, decide_eq_true_eq]; omega⟩
  | configureGrid =>
    match ps, hl with
    | [a1, a0, b1, b0, c1, c0, d1, d0, e1, e0, f1, f0, g1, g0, db, k, m1, m0, silence], _ =>
      change (gridSettingsOf (wordOf a1 a0) (wordOf b1 b0) (wordOf c1 c0) (wordOf d1 d0) (wordOf e1 e0) (wordOf f1 f0) (wordOf g1 g0)
        db k (wordOf m1 m0) silence).map Cmd.configureGrid = _ at h
      simp only [gridSettingsOf, Option.map_eq_some_iff, Option.bind_eq_bind, Option.bind_eq_some_iff, inRange_iff,
        Option.some.injEq] at h
      obtain ⟨g, ⟨l1, ⟨rfl, -, h1⟩, l2, ⟨rfl, -, h2⟩, l3, ⟨rfl, -, h3⟩, high, ⟨rfl, -, h4⟩, uf, ⟨rfl, -, h5⟩, overFreq, ⟨rfl, -, h6⟩,
        ub, ⟨rfl, -, h7⟩, fmin, ⟨rfl, -, h8⟩, silence, ⟨rfl, h9, h10⟩, rfl⟩, rfl⟩ := h
      refine ⟨rfl, ?_⟩
      simp only [Cmd.inRange, GridSettings.inRange, decide_eq_true_eq]
      exact ⟨h1, h2, h3, h4, h5, h6, h7, toNat_le_255 _, toNat_le_255 _, h8, h9, h10⟩
  | configureTiming =>
    match ps, hl with
    | [step, stale, lost, engage, release, tolerance, trackCount, limit], _ =>
      change (timingOf step stale lost engage release tolerance trackCount limit).map Cmd.configureTiming = _ at h
      simp only [timingOf, Option.map_eq_some_iff, Option.bind_eq_bind, Option.bind_eq_some_iff, inRange_iff,
        Option.some.injEq] at h
      obtain ⟨t, ⟨step, ⟨rfl, h1, h2⟩, stale, ⟨rfl, h3, h4⟩, lost, ⟨rfl, h5, h6⟩, engage, ⟨rfl, h7, h8⟩, release, ⟨rfl, h9, h10⟩,
        track, ⟨rfl, h11, h12⟩, limit, ⟨rfl, h13, h14⟩, rfl⟩, rfl⟩ := h
      refine ⟨rfl, ?_⟩
      simp only [Cmd.inRange, Timing.inRange, decide_eq_true_eq]
      exact ⟨h1, h2, h3, h4, h5, h6, h7, h8, h9, h10, toNat_le_255 _, h11, h12, h13, h14⟩
  | readPlant | resume | senseAttention =>
    match ps, hl with
    | [], _ =>
      obtain rfl := Option.some.inj h
      exact ⟨rfl, rfl⟩
  | setAttentionMask =>
    match ps, hl with
    | [mask], _ =>
      obtain rfl := Option.some.inj h
      exact ⟨rfl, rfl⟩
  | retireDraw | readDraw | rearmChannel | readChannel | readLine | readProfile | readGrid | endService | readFaultBank
  | clearFaultBank =>
    match ps, hl with
    | [b], _ =>
      obtain ⟨x, -, rfl⟩ := Option.map_eq_some_iff.mp h
      exact ⟨rfl, rfl⟩

/-- Settles O10: every field's bytes read back, and every range check leaves its range. -/
theorem commandBytesReadBack : Obligations.CommandBytesReadBack :=
  ⟨fun _ h => parseCmd_params h, fun _ _ _ h => inRange_of_parse h⟩

end Sys2Proof.Machine


/-! The supervisor commands as rows of the table (chapter 8): what each does when it is taken, and the bytes of its result. -/

namespace Sys2Proof.Machine

/-! ## Slots, states and reason bits -/

theorem mem_slots : ∀ i : Slot, i ∈ slots := by decide
theorem slots_eq : slots = List.finRange 24 := by decide

@[simp] theorem live_iff (r : DrawRecord) : r.live = true ↔ r.state ≠ .free := by simp [DrawRecord.live]

theorem erInEffect_iff (q : SeqState) : q.erInEffect = true ↔ ¬(q = .normal ∨ q = .confirming) := by
  cases q <;> simp [SeqState.erInEffect]

theorem flagByte_decide (p : Prop) [Decidable p] : flagByte (decide p) = if p then 0x01 else 0x00 := by
  unfold flagByte
  split <;> simp_all

/-- R159: the reason bit of a check, by what the check says. -/
theorem failsWith_eq {b : Bool} {p : Prop} [Decidable p] (h : b = true ↔ p) (reason : Nat) :
    failsWith b reason = if p then reason else 0 := by
  unfold failsWith
  split <;> simp_all

/-! ## OPEN DRAW (R11, R13, R17, R164) -/

section
variable (s : State)

theorem tagTaken_iff (tag : Nat) : s.tagTaken tag = true ↔ ∃ j : Slot, (s.record j).state ≠ .free ∧ (s.record j).tag = tag := by
  simp [State.tagTaken, mem_slots]

theorem feedersUnfit_iff (fs : List Feeder) (floor : Nat) :
    s.feedersUnfit fs floor = true ↔ (∃ f ∈ fs, (s.channel f.channel).enabled = false ∨ (s.channel f.channel).owner ≠ none)
      ∨ (fs.map fun f => (s.channel f.channel).capacity).sum < floor := by
  rw [State.feedersUnfit, Bool.or_eq_true, decide_eq_true_iff]
  simp [State.feederSum, Option.isSome_iff_ne_none]

/-- R164: the reason of a refused OPEN DRAW, check by check. -/
theorem openReasons_eq (p : OpenParams) :
    s.openReasons p = (if (s.record p.slot).state = .free then 0 else 64)
      + (if ∃ j : Slot, (s.record j).state ≠ .free ∧ (s.record j).tag = p.tag then 32 else 0)
      + (if (∃ f ∈ p.feeders, (s.channel f.channel).enabled = false ∨ (s.channel f.channel).owner ≠ none)
            ∨ (p.feeders.map fun f => (s.channel f.channel).capacity).sum < p.floor then 16 else 0)
      + (if p.target < p.floor then 2 else 0) := by
  rw [State.openReasons, failsWith_eq (live_iff _), failsWith_eq (tagTaken_iff s p.tag),
    failsWith_eq (feedersUnfit_iff s p.feeders p.floor), failsWith_eq decide_eq_true_iff, ite_not]
  rfl

theorem openReasons_eq_zero (p : OpenParams) :
    s.openReasons p = 0 ↔ (s.record p.slot).state = .free ∧ (∀ j : Slot, (s.record j).state ≠ .free → (s.record j).tag ≠ p.tag)
      ∧ (∀ f ∈ p.feeders, (s.channel f.channel).enabled = true ∧ (s.channel f.channel).owner = none)
      ∧ p.floor ≤ (p.feeders.map fun f => (s.channel f.channel).capacity).sum ∧ p.floor ≤ p.target := by
  rw [openReasons_eq]
  simp only [Nat.add_eq_zero_iff, ite_eq_left_iff, ite_eq_right_iff, OfNat.ofNat_ne_zero, imp_false, not_not, not_or, not_exists,
    not_and, not_lt, ne_eq, Bool.not_eq_false, and_assoc]

end

theorem performOpen_done {s : State} {p : OpenParams} (h : s.openReasons p = 0) :
    performOpen p s =
      (((s.setRecord p.slot (openedRecord p s.seq.state)).updateFeeders p.feeders (Channel.bound p.slot)).requestPass,
        doneBytes (decide (p.ceiling < p.target)) [byteOf p.slot.val, byteOf RecordState.pending.code]) := by
  rw [performOpen]
  exact if_pos h

/-- Settles O11: the bytes read back as the command's fields, every state check holds, and the effect is one record and its feeders. -/
theorem openDrawOpensRecord : Obligations.OpenDrawOpensRecord := by
  intro slot tag attrs floor ceiling target up down fs i cls s hr hi hslot ht1 ht2 hcls hf hfc hc hft htarget hup hdown hl1 hl4 hnd
    hfs hfree htag hcap
  have hparse := parse_openDraw hslot ht1 ht2 (classOf_code hcls) hf hfc hc htarget hup hdown hl1 hl4 hnd
    fun f hm => ⟨(hfs f hm).1, (hfs f hm).2.1⟩
  obtain ⟨p, hp⟩ : ∃ p : OpenParams, p = OpenParams.mk i tag.toNat cls (rankOf attrs) (bitOf attrs 2) (bitOf attrs 1) floor.toNat
    ceiling.toNat target.toNat up.toNat down.toNat fs := ⟨_, rfl⟩
  rw [← hp] at hparse
  have hzero : s.openReasons p = 0 := by
    rw [openReasons_eq_zero]
    subst hp
    exact ⟨hfree, htag, fun f hm => ⟨(hfs f hm).2.2.1, (hfs f hm).2.2.2⟩, hcap, hft⟩
  refine ⟨(s.setRecord p.slot (openedRecord p s.seq.state)).updateFeeders p.feeders (Channel.bound p.slot), ?exec, ?record, ?records,
    ?feeders, ?channels, ?frame⟩
  case exec =>
    have hsent : sentBytes (.openDraw slot tag attrs floor ceiling target up down
        (fs.map fun f => (byteOf f.channel.val, byteOf f.weight)))
          = some (.openDraw, [slot, tag, attrs] ++ bytes2 floor.toNat ++ bytes2 ceiling.toNat ++ bytes2 target.toNat
              ++ [up, down, byteOf fs.length] ++ fs.flatMap fun f => [byteOf f.channel.val, byteOf f.weight]) := by
      simp only [sentBytes, wordBytes, List.length_map, List.flatMap_map]
    have hslot' : byteOf i.val = slot := by rw [← hslot, byteOf_toNat]
    rw [exec_taken_idle hr hi hsent hparse, perform, performOpen_done hzero, doneBytes, flagByte_decide]
    subst hp
    rw [hslot']
    rfl
  case record =>
    rw [updateFeeders_record, show i = p.slot from hp ▸ rfl, record_setRecord_self]
    subst hp
    simp only [openedRecord, bitOf_eq, rankOf, erInEffect_iff, ite_not]
  case records =>
    intro j hj
    rw [updateFeeders_record, record_setRecord_ne]
    exact fun e => hj (by rw [← e, hp])
  case feeders =>
    intro f hm
    subst hp
    exact updateFeeders_mem _ fs (Channel.bound i) (fun x => rfl) _ ⟨f, hm, rfl⟩
  case channels =>
    intro c hc
    rw [updateFeeders_other _ _ _ _ (by rw [hp]; exact hc)]
    rfl
  case frame => rw [updateFeeders_eq]; rfl

/-- Settles O12: `openReasons_eq` is the sum of the statement. -/
theorem openDrawRefusedWithReasons : Obligations.OpenDrawRefusedWithReasons := by
  intro c ps p s hs hp hr hi reasons hreasons hne
  rw [← openReasons_eq] at hreasons
  subst hreasons
  rw [exec_taken_idle hr hi hs hp, perform, performOpen]
  dsimp only
  rw [if_neg hne]
  rfl

/-! ## SET TARGET (R7, R8, R73, R165) -/

theorem noTarget_iff (q : RecordState) : q.noTarget = true ↔ q = .free ∨ q = .releasing ∨ q = .faulted := by
  cases q <;> simp [RecordState.noTarget]

theorem targetReasons_eq (r : DrawRecord) (w : Nat) :
    r.targetReasons w = (if r.state = .free ∨ r.state = .releasing ∨ r.state = .faulted then 64 else 0)
      + (if r.lock = true then 8 else 0) + (if w < r.floor then 2 else 0) := by
  rw [DrawRecord.targetReasons, failsWith_eq (noTarget_iff _), failsWith_eq Iff.rfl, failsWith_eq decide_eq_true_iff]
  rfl

theorem aimFor_eq (r : DrawRecord) (t : Nat) :
    r.aimFor t = if r.state = .pending ∨ r.state = .shed then t else max r.aim t := by
  unfold DrawRecord.aimFor
  cases r.state <;> simp

/-- Settles O13: `targetReasons_eq` and `aimFor_eq` say what the command checks and what it does to the aim. -/
theorem setTargetStoresTarget : Obligations.SetTargetStoresTarget := by
  intro slot w i s hr hi hslot hw r reasons stored t hrec hreasons hstored ht
  rw [← targetReasons_eq] at hreasons
  have hexec := exec_taken_idle (c := .setTarget slot w) hr hi rfl (parse_setTarget hslot hw)
  simp only [perform, performSetTarget, ← hrec, ← hreasons, ← hstored, aimFor_eq, ← ht] at hexec
  refine ⟨fun hne => ?_, fun h0 hst hpr hne => ?_, fun h0 hnot => ?_⟩
  · rw [hexec, if_neg hne]; rfl
  · rw [hexec, if_pos h0, if_pos ⟨hst, hpr.symm, hne.symm⟩, doneBytes, flagByte_decide]; rfl
  · rw [hexec, if_pos h0, if_neg fun ⟨h1, h2, h3⟩ => hnot ⟨h1, h2.symm, h3.symm⟩, doneBytes, flagByte_decide]; rfl

/-! ## AMEND DRAW and RETIRE DRAW (R166, R167) -/

theorem noAmend_iff (q : RecordState) : q.noAmend = true ↔ q = .free ∨ q = .releasing := by
  cases q <;> simp [RecordState.noAmend]

/-- R1, R12: what entering FREE does to the part. -/
theorem freed_enterFree (s : State) (i : Slot) : Freed s (s.enterFree i) i := by
  refine ⟨?_, fun j hj => ?_, fun c hc => enterFree_mem s i c hc, fun c hc => enterFree_other s i c hc, ?_⟩
  · rw [enterFree_eq]; exact record_setRecord_self s i _
  · rw [enterFree_eq]; exact record_setRecord_ne s _ hj.symm
  · rw [enterFree_eq]; rfl

/-- Settles O14: both commands by the state of the record they name. -/
theorem amendDrawAndRetireDraw : Obligations.AmendDrawAndRetireDraw := by
  refine ⟨fun slot attrs up down i cls s hr hi hslot hcls hup hdown => ?amend, fun slot i s hr hi hslot r hrec => ?retire⟩
  case amend =>
    have hexec := exec_taken_idle (c := .amendDraw slot attrs up down) hr hi rfl
      (parse_amendDraw hslot (classOf_code hcls) hup hdown)
    simp only [perform, performAmend, noAmend_iff] at hexec
    refine ⟨fun h => ?_, fun h1 h2 => ?_⟩
    · rw [hexec, if_pos h]; rfl
    · rw [hexec, if_neg (not_or.mpr ⟨h1, h2⟩), bitOf_eq, bitOf_eq]; rfl
  case retire =>
    have hexec := exec_taken_idle (c := .retireDraw slot) hr hi rfl (parse_retireDraw hslot)
    simp only [perform, performRetire, ← hrec] at hexec
    refine ⟨fun h => ?_, fun h => ?_, fun h => ?_, fun h => ?_, fun h => ⟨s.enterFree i, ?_, freed_enterFree s i⟩⟩
    · rw [hexec, h]; rfl
    · rw [hexec, h]; rfl
    · rw [hexec, h]; rfl
    · rw [hexec, h]; rfl
    · rcases h with h | h | h <;> rw [hexec, h] <;> rfl

/-! ## READ DRAW and SCAN DRAWS (R168 to R171) -/

/-- Settles O15: the bytes of READ DRAW as the model lays them out; SCAN DRAWS filters the slots, which are ascending. -/
theorem readDrawAndScanDraws : Obligations.ReadDrawAndScanDraws := by
  refine ⟨fun slot i s hr hslot r hrec => ?read, fun condition w s hr hc h0 h23 h4 h5 => ?scan⟩
  case read =>
    have hslot' : byteOf i.val = slot := by rw [← hslot, byteOf_toNat]
    rw [exec_taken (c := .readDraw slot) hr rfl (parse_readDraw hslot) rfl]
    subst hrec
    simp only [perform, performReadDraw, State.drawBytes, hslot']
    cases (s.record i).held <;> rfl
  case scan =>
    obtain ⟨k, hk⟩ : ∃ k : Fin 7, condition.toNat = k.val := ⟨⟨condition.toNat, by omega⟩, rfl⟩
    have hok : scanValueOk k w.toNat = true := by
      revert hk
      match k with
      | 0 => intro hk; simpa [scanValueOk] using h0 (by simpa using hk)
      | 1 => intro _; rfl
      | 2 => intro hk; simpa [scanValueOk] using h23 (.inl (by simpa using hk))
      | 3 => intro hk; simpa [scanValueOk] using h23 (.inr (by simpa using hk))
      | 4 => intro hk; simpa [scanValueOk] using h4 (by simpa using hk)
      | 5 => intro hk; simpa [scanValueOk] using h5 (by simpa using hk)
      | 6 => intro _; rfl
    refine ⟨s.scan k w.toNat, ?_, List.Pairwise.filter _ (by decide), fun i => ?_⟩
    · exact exec_taken (c := .scanDraws condition w) hr rfl (parse_scanDraws hk w.isLt hok) rfl
    · rw [hk]
      simp only [State.scan, List.mem_filter, mem_slots, true_and]
      match k with
      | 0 | 1 | 2 | 3 | 4 | 5 | 6 => simp [State.scanFinds]

/-! ## The plant, channels and lines (R172 to R177) -/

theorem sumOver_slots (g : Slot → Nat) : sumOver slots g = (List.finRange 24).foldl (fun n i => n + g i) 0 := by
  rw [sumOver, slots_eq, List.sum_eq_foldl, List.foldl_map]

/-- Settles O16: SET CAP is one write; the sums of READ PLANT are over all slots. -/
theorem setCapAndReadPlant : Obligations.SetCapAndReadPlant := by
  refine ⟨fun w s hr hi => exec_taken_idle (c := .setCap w) hr hi rfl (parse_setCap w.isLt), fun s hr presents grants hp hg => ?_⟩
  have hpresents : s.totalPresent = presents := by rw [hp, State.totalPresent, sumOver_slots]
  have hgrants : s.totalGrant = grants := by rw [hg, State.totalGrant, sumOver_slots]
  clear hp hg
  rw [exec_taken (c := .readPlant) (ps := []) (cmd := .readPlant) hr rfl rfl rfl]
  have hflag : flagByte s.seq.state.erInEffect = if s.seq.state = .normal ∨ s.seq.state = .confirming then 0x00 else 0x01 := by
    cases s.seq.state <;> rfl
  rw [← hflag, perform, performReadPlant, State.plantBytes, hpresents, hgrants]
  rfl

theorem dropReply_eq (s : State) (c : Chan) :
    s.dropReply c = if (s.line (lineOf c)).reply = some c then s.setLine (lineOf c) { s.line (lineOf c) with reply := none }
      else s := rfl

/-- Settles O17: SET CHANNEL by the owner and by what it does to a pending reply, REARM CHANNEL by the condition. -/
theorem setChannelAndRearmChannel : Obligations.SetChannelAndRearmChannel := by
  refine ⟨fun channel enabled w c s hr hi hc he hw t ht => ?set, fun channel c s hr hi hc => ?rearm⟩
  case set =>
    have hexec := exec_taken_idle (c := .setChannel channel enabled w) hr hi rfl (parse_setChannel hc he hw)
    simp only [perform, performSetChannel, ← ht, Option.isSome_iff_ne_none] at hexec
    have hline : t.line (lineOf c) = s.line (lineOf c) := by rw [ht]; rfl
    refine ⟨fun ho => ?_, fun ho h0 hreply => ?_, fun ho hnot => ?_⟩
    · rw [hexec, if_pos ho]; rfl
    · rw [hexec, if_neg (by simp [ho]), if_neg (by simp [h0]), dropReply_eq, hline, if_pos hreply]; rfl
    · have hkept : (if decide (enabled.toNat = 1) = true then t else t.dropReply c) = t := by
        by_cases h1 : enabled.toNat = 1
        · simp [h1]
        · rw [if_neg (by simp [h1]), dropReply_eq, hline, if_neg fun hreply => hnot ⟨by omega, hreply⟩]
      rw [hexec, if_neg (by simp [ho]), hkept]; rfl
  case rearm =>
    have hexec := exec_taken_idle (c := .rearmChannel channel) hr hi rfl (parse_rearmChannel hc)
    simp only [perform, performRearm] at hexec
    refine ⟨fun h => ?_, fun h => ?_⟩
    · rw [hexec, if_pos h]; rfl
    · rw [hexec, if_neg h]; rfl

/-- R131: the usable capacity by condition. -/
theorem usable_eq (x : Channel) :
    x.usable = if x.condition = .online then min x.capacity (x.clamp.getD x.capacity)
      else if x.condition = .stale then x.frozen else 0 := by
  unfold Channel.usable
  cases x.condition <;> cases x.clamp <;> simp

theorem runningTimer_eq (x : Channel) :
    byteOf x.runningTimer = if x.staleTimer ≠ none then 0x01 else if x.lostTimer ≠ none then 0x02 else 0x00 := by
  unfold Channel.runningTimer
  cases x.staleTimer <;> cases x.lostTimer <;> rfl

/-- Settles O18: the bytes of READ CHANNEL as the model lays them out, and the two kinds of line of READ LINE. -/
theorem readChannelAndReadLine : Obligations.ReadChannelAndReadLine := by
  refine ⟨fun channel c s hr hc x hx => ?channel, fun b s hr => ⟨fun l hb => ?line, fun hb => ?grid⟩⟩
  case channel =>
    have hc' : byteOf c.val = channel := by rw [← hc, byteOf_toNat]
    rw [exec_taken (c := .readChannel channel) hr rfl (parse_readChannel hc) rfl]
    subst hx
    simp only [perform, performReadChannel, State.channelBytes, hc', usable_eq, runningTimer_eq]
    cases (s.channel c).owner <;> cases (s.channel c).clamp <;> rfl
  case line =>
    rw [exec_taken (c := .readLine b) hr rfl (parse_readLine (l := ⟨l.val, by omega⟩) hb) rfl, perform, performReadLine,
      dif_pos l.isLt]
    rfl
  case grid =>
    rw [exec_taken (c := .readLine b) hr rfl (parse_readLine (l := 8) hb) rfl, perform, performReadLine, dif_neg (by decide)]
    rfl

/-! ## Profiles, settings and RESUME (R178 to R183) -/

theorem profileBusy_iff (s : State) (k : ProfileNo) :
    s.profileBusy k = true ↔ (s.seq.state ≠ .normal ∧ s.seq.state ≠ .confirming ∧ s.seq.inUse = some k)
      ∨ (s.seq.state = .confirming ∧ s.seq.candidate = some k) := by
  simp only [State.profileBusy, Bool.or_eq_true, Bool.and_eq_true, decide_eq_true_eq, erInEffect_iff, not_or, and_assoc, ne_eq]

theorem profile_setProfile (s : State) (k j : ProfileNo) (p : Profile) :
    (s.setSeq { s.seq with profiles := s.seq.profiles.set k p }).profile j = if k = j then p else s.profile j := by
  by_cases h : k = j
  · subst h
    rw [if_pos rfl]
    exact get_set_self _ _ _
  · rw [if_neg h]
    exact get_set_ne _ _ _ _ h

/-- Settles O19: LOAD PROFILE is one write of the profile table, refused for a busy profile. -/
theorem loadProfileStoresProfile : Obligations.LoadProfileStoresProfile := by
  intro index enabled mask polarity mode confirm retain tracking hold period step k m s hr hk he hm hc1 hc2 hret ht hh hp hs1 hs2 ps
    busy hps hbusy
  rw [← profileBusy_iff] at hbusy
  have hexec := exec_taken (c := .loadProfile index enabled mask polarity mode confirm retain tracking hold period step) hr rfl
    (parse_profile hk he hm hc1 hc2 hret ht hh hp hs1 hs2) rfl
  rw [show [index, enabled, mask, polarity, mode, confirm] ++ wordBytes retain ++ [tracking, hold, period] ++ wordBytes step = ps
    from hps.symm] at hexec
  simp only [perform, performLoadProfile] at hexec
  clear hps
  refine ⟨fun h => ?_, fun h => ?_⟩
  · rw [hexec, if_pos (hbusy.mp h)]; rfl
  rw [if_neg fun hb => h (hbusy.mpr hb)] at hexec
  refine ⟨_, hexec, fun h8 => ?_, fun h8 => ?_, fun j hj => ?_, ?_⟩
  · rw [profile_setProfile, if_pos rfl, profileToStore, if_neg h8]
  · rw [profile_setProfile, if_pos rfl, profileToStore, if_pos h8]
  · rw [profile_setProfile, if_neg hj.symm]
  · rfl

theorem signedBytes2_eq (d : Int) : signedBytes2 d = bytes2 (BitVec.ofInt 16 d).toNat := by
  rw [signedBytes2, BitVec.toNat_ofInt]
  congr 2
  omega

/-- Settles O20: the bytes of both commands as the model lays them out. -/
theorem readProfileAndReadGrid : Obligations.ReadProfileAndReadGrid := by
  refine ⟨fun index k s hr hk p hp => ?profile, fun view s hr => ⟨fun hv => ?view0, fun hv g hg => ?view1⟩⟩
  case profile =>
    rw [exec_taken (c := .readProfile index) hr rfl (parse_readProfile hk) rfl]
    have hmode : byteOf p.mode.code = if p.mode = .any then 0x01 else 0x00 := by cases p.mode <;> rfl
    rw [← hmode]
    subst hp
    rfl
  case view0 =>
    rw [exec_taken (c := .readGrid view) hr rfl (parse_readGrid (by omega)) rfl]
    simp only [perform, performReadGrid, hv, State.seqBytes, signedBytes2_eq]
    cases s.seq.inUse <;> cases s.seq.candidate <;> rfl
  case view1 =>
    rw [exec_taken (c := .readGrid view) hr rfl (parse_readGrid (by omega)) rfl]
    simp only [perform, performReadGrid, hv]
    subst hg
    rfl

/-- Settles O21: one write of the grid settings; one of the timing settings, with the two counts lowered to the new limits. -/
theorem configureCommandsWriteSettings : Obligations.ConfigureCommandsWriteSettings := by
  refine ⟨fun l1 l2 l3 high uf overFreq ub db k fmin silence s hr h1 h2 h3 h4 h5 h6 h7 h8 h9 => ?grid,
    fun step stale lost engage release tolerance track limit s hr h1 h2 h3 h4 h5 h6 h7 h8 h9 => ⟨_, exec_taken
      (c := .configureTiming step stale lost engage release tolerance track limit) hr rfl
      (parse_configureTiming h1 h2 h3 h4 h5 h6 h7 h8 h9) rfl, fun c => ?mismatch, ?frame⟩⟩
  case grid =>
    exact exec_taken (c := .configureGrid l1 l2 l3 high uf overFreq ub db k fmin silence) hr rfl
      (parse_configureGrid h1 h2 h3 h4 h5 h6 h7 h8 h9) rfl
  case mismatch => exact channel_mapChannels _ _ c
  case frame =>
    have hlimit : decide (min s.seq.reentries limit.toNat = limit.toNat) = decide (limit.toNat ≤ s.seq.reentries) := by
      simp
    rw [← hlimit]
    rfl

/-- Settles O22: RESUME by the Sequencer's state. -/
theorem resumeLeavesLatched : Obligations.ResumeLeavesLatched := by
  intro s hr
  have hexec := exec_taken (c := .resume) (cmd := .resume) (ps := []) hr rfl rfl rfl
  simp only [perform, performResume] at hexec
  refine ⟨fun p hl hp => ?_, fun hl => ?_⟩
  · have huse : ({ s with seq := { s.seq with resumeRequired := false, reentries := 0 } } : State).inUseProfile = s.profile p := by
      simp only [State.inUseProfile, hp]
      rfl
    rw [hexec, if_pos hl, ← huse]; rfl
  · rw [hexec, if_neg hl]; rfl

/-! ## Attention and fault banks (R184 to R192, R200) -/

theorem sourcesDown_sorted : sourcesDown.Pairwise (· < ·) := by decide

/-- R188: no source qualifies where every pending, enabled one has a service at or above it. -/
theorem qualifying_none {s : State}
    (h : ∀ n : SourceNo, (s.source n).ip = true → (s.source n).ie = true → ∃ m : SourceNo, m ≤ n ∧ (s.source m).ius = true) :
    s.qualifying = none := by
  cases hq : s.qualifying with
  | none => rfl
  | some n =>
    obtain ⟨-, hip, hie, hius, -⟩ := firstQualifying_some sourcesDown_sorted hq
    obtain ⟨m, hm, hu⟩ := h n hip hie
    exact absurd hu (by simp [hius m (mem_sourcesDown m) hm])

/-- R188, R189: the qualifying source of highest priority is the first that is pending and enabled. -/
theorem qualifying_first {s : State} {n : SourceNo} (hip : (s.source n).ip = true) (hie : (s.source n).ie = true)
    (hfree : ∀ m : SourceNo, m ≤ n → (s.source m).ius = false)
    (hfirst : ∀ m : SourceNo, m < n → ¬((s.source m).ip = true ∧ (s.source m).ie = true)) : s.qualifying = some n := by
  have hsome : s.qualifying.isSome = true := firstQualifying_isSome hip hie hfree sourcesDown_sorted (mem_sourcesDown n)
  obtain ⟨k, hk⟩ := Option.isSome_iff_exists.mp hsome
  obtain ⟨-, kip, kie, -, kfirst⟩ := firstQualifying_some sourcesDown_sorted hk
  rcases lt_trichotomy k n with h | h | h
  · exact absurd ⟨kip, kie⟩ (hfirst k h)
  · rw [hk, h]
  · exact absurd ⟨hip, hie⟩ (kfirst n (mem_sourcesDown n) h)

/-- Settles O23: which source qualifies, and whether it has a member set. -/
theorem senseAttentionTakesHighest : Obligations.SenseAttentionTakesHighest := by
  intro s hr
  have hexec := exec_taken (c := .senseAttention) (cmd := .senseAttention) (ps := []) hr rfl rfl rfl
  simp only [perform, performSense] at hexec
  refine ⟨fun h => ?_, fun n hip hie hfree hfirst => ?_⟩
  · rw [hexec, qualifying_none h]; rfl
  rw [qualifying_first hip hie hfree hfirst] at hexec
  refine ⟨fun x xs hn hm => ?_, fun hn => ?_⟩
  · have hmem : hasMembers n = true := by rcases hn with rfl | rfl | rfl | rfl | rfl <;> rfl
    have hip' : (!xs.isEmpty) = decide (xs ≠ []) := by cases xs <;> simp
    simp only [hmem, AttentionSource.sensed, AttentionSource.reported, hm, List.tail_cons, List.head?_cons, hip', ↓reduceIte] at hexec
    exact hexec
  · have hmem : hasMembers n = false := by rcases hn with rfl | rfl | rfl <;> rfl
    simp only [hmem, AttentionSource.sensed, AttentionSource.reported, Bool.false_eq_true, ↓reduceIte] at hexec
    exact hexec

/-- R191: each source named in a list without repetition gets its bit of the mask. -/
theorem foldl_setEnable (mask : Byte) (ns : List SourceNo) (hn : ns.Nodup) (s : State) (k : SourceNo) :
    (ns.foldl (fun t n => t.setSource n { t.source n with ie := bitOf mask n.val }) s).source k
      = if k ∈ ns then { s.source k with ie := bitOf mask k.val } else s.source k := by
  induction ns generalizing s with
  | nil => simp
  | cons n ns ih =>
    obtain ⟨hnot, hns⟩ := List.nodup_cons.mp hn
    rw [List.foldl_cons, ih hns, source_setSource]
    by_cases h : n = k
    · subst h; simp [hnot]
    · simp [h, Ne.symm h]

theorem setMask_source (s : State) (mask : Byte) (k : SourceNo) :
    (s.setMask mask).source k = { s.source k with ie := mask.getLsbD k.val } := by
  rw [State.setMask, foldl_setEnable mask _ (by decide), if_pos (mem_sourcesDown k), bitOf_eq]

theorem foldl_setEnable_keeps (mask : Byte) (ns : List SourceNo) (s : State) :
    { ns.foldl (fun t n => t.setSource n { t.source n with ie := bitOf mask n.val }) s with attention := s.attention } = s := by
  induction ns generalizing s with
  | nil => rfl
  | cons n ns ih => exact congrArg (fun t : State => { t with attention := s.attention }) (ih (s.setSource n _))

theorem setMask_keeps (s : State) (mask : Byte) : { s.setMask mask with attention := s.attention } = s := by
  rw [State.setMask]
  exact foldl_setEnable_keeps mask _ s

/-- Settles O25: `setMask_source`, and what the pin makes of the new enables. -/
theorem attentionMaskWritesEnables : Obligations.AttentionMaskWritesEnables := by
  intro mask s hr
  have hkeeps := setMask_keeps s mask
  have hup : (s.setMask mask).up := (congrArg State.resetState hkeeps).trans hr.1.1
  refine ⟨s.setMask mask, exec_taken (c := .setAttentionMask mask) (cmd := .setAttentionMask mask) hr rfl rfl rfl,
    setMask_source s mask, hkeeps, fun n hmask hip hfree => ?_, fun hoff => ?_⟩
  · exact attn_of_pending (n := n) hup (by rw [setMask_source]; exact hip) (by rw [setMask_source]; exact hmask)
      fun m hm => by rw [setMask_source]; exact hfree m hm
  · rw [Bool.eq_false_iff, ne_eq, attn_iff]
    rintro ⟨-, n, hip, hie, -⟩
    rw [setMask_source] at hip hie
    rw [hoff n hip] at hie
    cases hie

/-- Settles O26: both commands name one bank. -/
theorem faultBankReadAndClear : Obligations.FaultBankReadAndClear := by
  intro b n s hr hb
  exact ⟨exec_taken (c := .readFaultBank b) hr rfl (parse_readFaultBank hb) rfl,
    exec_taken (c := .clearFaultBank b) hr rfl (parse_clearFaultBank hb) rfl⟩

/-- Settles O27: the member set is held in rising order, so the list with the member added is the one its members fix. -/
theorem occurrencesAreKept : Obligations.OccurrencesAreKept := by
  intro s n m hs
  refine ⟨addMember m (s.source n).members, rfl, addMember_sorted m _ hs, fun x => mem_addMember m x _,
    fun hm => addMember_of_mem m _ hs hm, rfl, fun hup hie hfree => ⟨?_, ?_⟩⟩
  · refine attn_of_pending (n := n) hup (by simp [occurMember_source]) (by simp [occurMember_source, hie]) fun k hk => ?_
    rw [occurMember_source]
    split
    · exact hfree k hk
    · exact hfree k hk
  · refine attn_of_pending (n := n) hup (by simp [occur_source]) (by simp [occur_source, hie]) fun k hk => ?_
    rw [occur_source]
    split
    · exact hfree k hk
    · exact hfree k hk

end Sys2Proof.Machine

/-!
The Allocation Engine (chapter 2): requests and snapshots, and what a pass computes from its snapshot alone.
-/

namespace Sys2Proof.Machine

/-! ## Requests and snapshots (R25, R26, R44, R45) -/

theorem erInEffect_eq (st : SeqState) : st.erInEffect = decide (¬(st = .normal ∨ st = .confirming)) := by
  cases st <;> rfl

theorem snapshot_cap (s : State) : s.snapshot.cap = if s.seq.state = .normal ∨ s.seq.state = .confirming then s.e1
    else min s.e1 s.seq.er := by
  by_cases h : s.seq.state = .normal ∨ s.seq.state = .confirming <;>
    simp only [Snapshot.cap, State.snapshot, erInEffect_eq, h, not_true_eq_false, not_false_eq_true, decide_true, decide_false,
      Bool.false_eq_true, ↓reduceIte, State.e1]

/-- Settles O29: requests by the pass state, the snapshot by its definition. -/
theorem requestsBeginPasses : Obligations.RequestsBeginPasses := by
  intro s
  refine ⟨fun h => requestPass_idle h, fun h => requestPass_flying h, rfl, rfl, rfl, rfl, snapshot_cap s, fun i r hr => ?_⟩
  subst hr
  exact snapshot_record s i

/-! ## Sums over slots -/

/-- The sum over a list that names no slot twice is the sum over all slots of what the list names. -/
theorem sum_map_nodup {is : List Slot} (h : is.Nodup) (g : Slot → Nat) :
    (is.map g).sum = ∑ i : Slot, if i ∈ is then g i else 0 := by
  rw [← List.sum_toFinset g h, ← Finset.sum_filter]
  congr 1
  ext i
  simp

theorem sum_slots (g : Slot → Nat) : (slots.map g).sum = ∑ i : Slot, g i := by
  rw [sum_map_nodup (by decide) g]
  exact Finset.sum_congr rfl fun i _ => if_pos (mem_slots i)

theorem nodup_of_lt {is : List Slot} (h : is.Pairwise (· < ·)) : is.Nodup := h.imp fun h => ne_of_lt h

theorem slots_sorted : slots.Pairwise (· < ·) := by decide

/-- The lowest slot of a kind is the first that a filter of the slots keeps. -/
theorem filter_slots_first {p : Slot → Bool} {i : Slot} (hi : p i = true) (hlow : ∀ j, j < i → p j = false) :
    ∃ is, slots.filter p = i :: is := by
  cases h : slots.filter p with
  | nil => exact absurd (List.filter_eq_nil_iff.mp h i (mem_slots i)) (by simp [hi])
  | cons k ks =>
    have hsorted : (k :: ks).Pairwise (· < ·) := h ▸ slots_sorted.filter p
    have hk : p k = true := (List.mem_filter.mp (h ▸ List.mem_cons_self : k ∈ slots.filter p)).2
    have hmem : i ∈ k :: ks := h ▸ List.mem_filter.mpr ⟨mem_slots i, hi⟩
    rcases List.mem_cons.mp hmem with rfl | hmem
    · exact ⟨ks, rfl⟩
    · have := hlow k (List.rel_of_pairwise_cons hsorted hmem)
      rw [hk] at this
      cases this

/-! ## Admission and drop-out (R29 to R31) -/

theorem mem_dropOrder (n : Snapshot) (i : Slot) :
    i ∈ n.dropOrder ↔ ((n.record i).state = .engaging ∨ (n.record i).state = .active) ∧ (n.record i).exempt = false := by
  have hrank : ∀ k : Fin 8, k ∈ ranksDown := by decide
  simp only [Snapshot.dropOrder, List.mem_flatMap, List.mem_filter, List.mem_reverse, SnapRecord.droppableAt, Bool.and_eq_true,
    decide_eq_true_eq, Bool.not_eq_true', mem_slots, true_and, List.mem_cons, List.not_mem_nil, or_false]
  constructor
  · rintro ⟨k, -, st, rfl | rfl, ⟨hst, -⟩, hex⟩
    · exact ⟨.inl hst, hex⟩
    · exact ⟨.inr hst, hex⟩
  · rintro ⟨hst, hex⟩
    exact ⟨_, hrank _, _, hst, ⟨rfl, rfl⟩, hex⟩

/-- R29: whether one record comes before another in the drop order. -/
abbrev DropsBefore (n : Snapshot) (i j : Slot) : Prop :=
  (n.record j).rank < (n.record i).rank
    ∨ ((n.record i).rank = (n.record j).rank ∧ (n.record i).state = .engaging ∧ (n.record j).state = .active)
    ∨ ((n.record i).rank = (n.record j).rank ∧ (n.record i).state = (n.record j).state ∧ j < i)

theorem droppableAt_iff {r : SnapRecord} {k : Fin 8} {st : RecordState} :
    r.droppableAt k st = true ↔ r.state = st ∧ r.rank = k ∧ r.exempt = false := by
  simp [SnapRecord.droppableAt, and_assoc]

theorem dropOrder_pairwise (n : Snapshot) : n.dropOrder.Pairwise (DropsBefore n) := by
  refine List.pairwise_flatMap.mpr ⟨fun k _ => List.pairwise_flatMap.mpr ⟨fun st _ => ?sameState, ?states⟩, ?ranks⟩
  case sameState =>
    refine List.Pairwise.imp_of_mem ?_ ((List.pairwise_reverse.mpr slots_sorted).filter _)
    intro i j hi hj hlt
    obtain ⟨hsi, hki, -⟩ := droppableAt_iff.mp (List.mem_filter.mp hi).2
    obtain ⟨hsj, hkj, -⟩ := droppableAt_iff.mp (List.mem_filter.mp hj).2
    exact .inr (.inr ⟨hki.trans hkj.symm, hsi.trans hsj.symm, hlt⟩)
  case states =>
    refine List.pairwise_pair.mpr fun i hi j hj => ?_
    obtain ⟨hsi, hki, -⟩ := droppableAt_iff.mp (List.mem_filter.mp hi).2
    obtain ⟨hsj, hkj, -⟩ := droppableAt_iff.mp (List.mem_filter.mp hj).2
    exact .inr (.inl ⟨hki.trans hkj.symm, hsi, hsj⟩)
  case ranks =>
    refine List.Pairwise.imp ?_ (by decide : ranksDown.Pairwise (fun a b => b < a))
    intro a b hab i hi j hj
    simp only [List.mem_flatMap, List.mem_filter, droppableAt_iff] at hi hj
    obtain ⟨-, -, -, -, hki, -⟩ := hi
    obtain ⟨-, -, -, -, hkj, -⟩ := hj
    exact .inl (hki ▸ hkj ▸ hab)

theorem dropOrder_nodup (n : Snapshot) : n.dropOrder.Nodup := by
  refine (dropOrder_pairwise n).imp ?_
  rintro i j h rfl
  rcases h with h | ⟨-, h, h'⟩ | ⟨-, -, h⟩
  · exact lt_irrefl _ h
  · rw [h] at h'; cases h'
  · exact lt_irrefl _ h

/-- The sum of the floor values of given records (R29). -/
abbrev Snapshot.floors (n : Snapshot) (is : List Slot) : Nat := (is.map fun i => (n.record i).floorValue).sum

/-- R30: what is dropped of a drop order, and what is left of the floor sum. -/
theorem dropWhileOver_spec (n : Snapshot) (cap : Nat) (is : List Slot) (f : Nat) :
    (dropWhileOver n cap is f).1 = is.take (dropWhileOver n cap is f).1.length
    ∧ (dropWhileOver n cap is f).2 = f - n.floors (dropWhileOver n cap is f).1
    ∧ (∀ k, k < (dropWhileOver n cap is f).1.length → cap + n.floors (is.take k) < f)
    ∧ ((dropWhileOver n cap is f).1.length < is.length → f ≤ cap + n.floors (dropWhileOver n cap is f).1) := by
  induction is generalizing f with
  | nil => exact ⟨rfl, rfl, fun k hk => absurd hk (Nat.not_lt_zero k), fun h => absurd h (Nat.not_lt_zero 0)⟩
  | cons i is ih =>
    unfold dropWhileOver
    by_cases hf : f ≤ cap
    · simp only [hf, ↓reduceIte]
      exact ⟨rfl, rfl, fun k hk => absurd hk (Nat.not_lt_zero k), fun _ => by simpa [Snapshot.floors] using hf⟩
    · simp only [hf, ↓reduceIte]
      obtain ⟨htake, hleft, hover, hstop⟩ := ih (f - (n.record i).floorValue)
      refine ⟨?_, ?_, fun k hk => ?_, fun hk => ?_⟩
      · rw [List.length_cons, List.take_succ_cons, ← htake]
      · rw [hleft]
        simp only [Snapshot.floors, List.map_cons, List.sum_cons]
        omega
      · cases k with
        | zero => simpa [Snapshot.floors] using hf
        | succ k =>
          have := hover k (by simpa using hk)
          simp only [Snapshot.floors, List.take_succ_cons, List.map_cons, List.sum_cons] at this ⊢
          omega
      · have := hstop (by simpa using hk)
        simp only [Snapshot.floors, List.map_cons, List.sum_cons] at this ⊢
        omega

theorem dropped_eq_take (n : Snapshot) : n.dropped = n.dropOrder.take n.dropped.length := (dropWhileOver_spec n _ _ _).1

theorem admission_left (n : Snapshot) : n.admission.2 = n.floorSum - n.floors n.dropped := (dropWhileOver_spec n _ _ _).2.1

theorem floorSum_eq (n : Snapshot) : n.floorSum = n.floors slots := rfl

/-- R31: a pass is in breach where what is dropped does not bring the floor sum to the cap. -/
theorem breach_iff (n : Snapshot) : n.breach = true ↔ n.cap + n.floors n.dropped < n.floors slots := by
  rw [Snapshot.breach, decide_eq_true_eq, admission_left, floorSum_eq]
  omega

theorem mem_dropOrder_of_dropped {n : Snapshot} {i : Slot} (h : i ∈ n.dropped) : i ∈ n.dropOrder := by
  rw [dropped_eq_take] at h
  exact List.mem_of_mem_take h

theorem dropped_nodup (n : Snapshot) : n.dropped.Nodup := by
  rw [dropped_eq_take]
  exact (dropOrder_nodup n).sublist (List.take_sublist _ _)

theorem mem_survivors {n : Snapshot} {i : Slot} :
    i ∈ n.survivors ↔ ((n.record i).state = .active ∨ (n.record i).state = .engaging ∨ (n.record i).state = .releasing)
      ∧ i ∉ n.dropped := by
  simp [Snapshot.survivors, Snapshot.survives, SnapRecord.inPass, mem_slots, or_assoc]

theorem survivors_sorted (n : Snapshot) : n.survivors.Pairwise (· < ·) := slots_sorted.filter _

theorem not_dropped_of_exempt {n : Snapshot} {i : Slot} (h : (n.record i).exempt = true) : i ∉ n.dropped := fun hi => by
  have := ((mem_dropOrder n i).mp (mem_dropOrder_of_dropped hi)).2
  rw [h] at this
  cases this

theorem not_dropped_of_releasing {n : Snapshot} {i : Slot} (h : (n.record i).state = .releasing) : i ∉ n.dropped := fun hi => by
  rcases ((mem_dropOrder n i).mp (mem_dropOrder_of_dropped hi)).1 with hst | hst <;> rw [h] at hst <;> cases hst

/-- R31: the EXEMPT survivors among the slots. -/
theorem survivors_exempt (n : Snapshot) :
    (n.survivors.filter fun i => decide ((n.record i).state ≠ .releasing) && (n.record i).exempt)
      = slots.filter fun i => decide (((n.record i).state = .active ∨ (n.record i).state = .engaging) ∧ (n.record i).exempt = true) := by
  rw [Snapshot.survivors, List.filter_filter]
  refine List.filter_congr fun i _ => ?_
  rw [Bool.eq_iff_iff]
  simp only [Snapshot.survives, SnapRecord.inPass, Bool.and_eq_true, decide_eq_true_eq, Bool.or_eq_true, Bool.not_eq_true',
    decide_eq_false_iff_not]
  constructor
  · rintro ⟨⟨hne, hex⟩, (h | h) | h, -⟩
    · exact ⟨.inl h, hex⟩
    · exact ⟨.inr h, hex⟩
    · exact absurd h hne
  · rintro ⟨h | h, hex⟩
    · exact ⟨⟨by simp [h], hex⟩, .inl (.inl h), not_dropped_of_exempt hex⟩
    · exact ⟨⟨by simp [h], hex⟩, .inl (.inr h), not_dropped_of_exempt hex⟩

/-- R31: the RELEASING survivors with present above 0 among the slots. -/
theorem survivors_leaving (n : Snapshot) :
    (n.survivors.filter fun i => decide ((n.record i).state = .releasing) && decide (0 < (n.record i).present))
      = slots.filter fun i => decide ((n.record i).state = .releasing ∧ 0 < (n.record i).present) := by
  rw [Snapshot.survivors, List.filter_filter]
  refine List.filter_congr fun i _ => ?_
  rw [Bool.eq_iff_iff]
  simp only [Snapshot.survives, SnapRecord.inPass, Bool.and_eq_true, decide_eq_true_eq, Bool.or_eq_true, Bool.not_eq_true',
    decide_eq_false_iff_not]
  exact ⟨fun h => h.1, fun h => ⟨h, .inr h.1, not_dropped_of_releasing h.1⟩⟩

/-- Settles O30: `dropOrder_pairwise`, `dropWhileOver_spec`, and the first slot of each of the two filters of `breachIndex`. -/
theorem dropsFollowTheDropOrder : Obligations.DropsFollowTheDropOrder := by
  intro n floors hfloors
  obtain rfl : floors = n.floors := funext hfloors
  obtain ⟨htake, -, hover, hstop⟩ := dropWhileOver_spec n n.cap n.dropOrder n.floorSum
  refine ⟨mem_dropOrder n, dropOrder_pairwise n, htake, hover, hstop, breach_iff n, fun exempt hexempt => ⟨?exempt, ?leaving⟩⟩
  case exempt =>
    intro i hi hlow
    obtain ⟨is, h⟩ := filter_slots_first (p := fun i => decide (((n.record i).state = .active ∨ (n.record i).state = .engaging)
      ∧ (n.record i).exempt = true)) (decide_eq_true ((hexempt i).mp hi)) fun j hj => decide_eq_false fun h => hlow j hj ((hexempt j).mpr h)
    simp only [Snapshot.breachIndex, survivors_exempt, h, List.cons_append]
  case leaving =>
    intro hnone _ i hst hpresent hlow
    have hempty : (slots.filter fun i => decide (((n.record i).state = .active ∨ (n.record i).state = .engaging)
        ∧ (n.record i).exempt = true)) = [] := List.filter_eq_nil_iff.mpr fun j _ h => hnone j ((hexempt j).mpr (of_decide_eq_true h))
    obtain ⟨is, h⟩ := filter_slots_first (p := fun i => decide ((n.record i).state = .releasing ∧ 0 < (n.record i).present))
      (decide_eq_true ⟨hst, hpresent⟩) fun j hj => decide_eq_false (hlow j hj)
    simp only [Snapshot.breachIndex, survivors_exempt, survivors_leaving, hempty, h, List.nil_append]

end Sys2Proof.Machine

/-!
Class reduction, re-admission and the grants of a pass (R33 to R37, R41).
-/

namespace Sys2Proof.Machine

/-! ## Proportional parts (R35, R63, R64) -/

/-- The parts of an amount in proportion to weights, rounded toward zero, fall short of it by at most one unit for each part. -/
theorem sum_parts {α : Type} (l : List α) (w : α → Nat) (r total : Nat) (ht : total = (l.map w).sum) (hpos : 0 < total) :
    (l.map fun a => r * w a / total).sum ≤ r ∧ r ≤ (l.map fun a => r * w a / total).sum + l.length := by
  have key : ∀ l : List α, total * (l.map fun a => r * w a / total).sum ≤ r * (l.map w).sum
      ∧ r * (l.map w).sum ≤ total * ((l.map fun a => r * w a / total).sum + l.length) := by
    intro l
    induction l with
    | nil => simp
    | cons a l ih =>
      simp only [List.map_cons, List.sum_cons, List.length_cons, Nat.mul_add, mul_one] at ih ⊢
      have h1 := Nat.mul_div_le (r * w a) total
      have h2 := Nat.lt_mul_div_succ (r * w a) hpos
      rw [Nat.mul_add, mul_one] at h2
      omega
  obtain ⟨h1, h2⟩ := key l
  rw [← ht, Nat.mul_comm r] at h1 h2
  exact ⟨Nat.le_of_mul_le_mul_left h1 hpos, Nat.le_of_mul_le_mul_left h2 hpos⟩

/-- Of a rising list, the members with fewer than `k` before them number the least of `k` and the length. -/
theorem count_ahead (is : List Slot) (h : is.Pairwise (· < ·)) (k : Nat) :
    (is.map fun i => if (is.filter fun j => decide (j < i)).length < k then 1 else 0).sum = min k is.length := by
  induction is generalizing k with
  | nil => simp
  | cons a as ih =>
    obtain ⟨ha, has⟩ := List.pairwise_cons.mp h
    have hfirst : (as.filter fun j => decide (j < a)) = [] :=
      List.filter_eq_nil_iff.mpr fun j hj => by simpa using (ha j hj).le
    have hrest : (as.map fun i => if ((a :: as).filter fun j => decide (j < i)).length < k then 1 else 0)
        = as.map fun i => if (as.filter fun j => decide (j < i)).length < k - 1 then 1 else 0 := by
      refine List.map_congr_left fun i hi => ?_
      rw [List.filter_cons_of_pos (by simpa using ha i hi), List.length_cons]
      exact if_congr (by omega) rfl rfl
    rw [List.map_cons, List.sum_cons, hrest, ih has, List.filter_cons_of_neg (by simp), hfirst, List.length_cons, List.length_nil]
    by_cases hk : 0 < k
    · rw [if_pos hk]; omega
    · rw [if_neg hk]; omega

/-! ## Room (R28) -/

theorem floorValue_le_demand (r : SnapRecord) : r.floorValue ≤ r.demand := by
  unfold SnapRecord.floorValue SnapRecord.demand
  cases r.state <;> simp

theorem room_eq (r : SnapRecord) : r.room = r.demand - r.floorValue := by
  unfold SnapRecord.room SnapRecord.floorValue SnapRecord.demand
  cases r.state <;> simp

/-! ## What a class gives (R34, R35) -/

/-- The records of a class that have room. -/
abbrev Snapshot.givers (n : Snapshot) (members : List Slot) : List Slot := members.filter fun j => decide (0 < (n.record j).room)

theorem sum_givers (n : Snapshot) (members : List Slot) (g : Slot → Nat) (h : ∀ j, (n.record j).room = 0 → g j = 0) :
    ((n.givers members).map g).sum = (members.map g).sum := by
  induction members with
  | nil => rfl
  | cons j js ih =>
    by_cases hj : 0 < (n.record j).room
    · simp only [Snapshot.givers, List.filter_cons_of_pos (p := fun j => decide (0 < (n.record j).room)) (decide_eq_true hj),
        List.map_cons, List.sum_cons] at ih ⊢
      rw [ih]
    · simp only [Snapshot.givers, List.filter_cons_of_neg (p := fun j => decide (0 < (n.record j).room)) (a := j) (by simpa using hj),
        List.map_cons, List.sum_cons] at ih ⊢
      rw [ih, h j (by omega), Nat.zero_add]

/-- R34, R35: what one record of a class gives, with the leftover counted over the records that have room. -/
theorem classTake_eq (n : Snapshot) (members : List Slot) (excess : Nat) (i : Slot) (total : Nat)
    (ht : total = (members.map fun j => (n.record j).room).sum) :
    n.classTake members excess i = if total ≤ excess then (n.record i).room
      else excess * (n.record i).room / total
        + if 0 < (n.record i).room ∧ ((n.givers members).filter fun j => decide (j < i)).length
            < excess - ((n.givers members).map fun j => excess * (n.record j).room / total).sum then 1 else 0 := by
  subst ht
  rw [sum_givers n members _ fun j hj => by simp [hj], List.filter_filter]
  simp only [Bool.and_comm (decide _) (decide (0 < _))]
  rfl

theorem classTake_le_room (n : Snapshot) (members : List Slot) (excess : Nat) (i : Slot) :
    n.classTake members excess i ≤ (n.record i).room := by
  rw [classTake_eq n members excess i _ rfl]
  generalize (members.map fun j => (n.record j).room).sum = total
  split
  · exact le_rfl
  next hlt =>
    have htotal : 0 < total := by omega
    rcases Nat.eq_zero_or_pos (n.record i).room with h0 | hpos
    · simp [h0]
    · have : excess * (n.record i).room / total < (n.record i).room :=
        (Nat.div_lt_iff_lt_mul htotal).mpr (by rw [Nat.mul_comm]; exact Nat.mul_lt_mul_of_pos_left (by omega) hpos)
      split <;> omega

/-- A class that no excess reaches gives nothing. -/
theorem classTake_zero (n : Snapshot) {members : List Slot} {i : Slot} (hi : i ∈ members) : n.classTake members 0 i = 0 := by
  rw [classTake_eq n members 0 i _ rfl]
  have hle := List.single_le_sum (l := members.map fun j => (n.record j).room) (by simp) _ (List.mem_map_of_mem hi)
  split
  · omega
  · simp

/-- R34, R35: a class gives the excess that reaches it, or all its room where that is less. -/
theorem sum_classTake (n : Snapshot) (members : List Slot) (hs : members.Pairwise (· < ·)) (excess : Nat) :
    (members.map (n.classTake members excess)).sum = min excess (members.map fun j => (n.record j).room).sum := by
  obtain ⟨total, ht⟩ : ∃ total, total = (members.map fun j => (n.record j).room).sum := ⟨_, rfl⟩
  rw [← ht]
  by_cases hle : total ≤ excess
  · rw [Nat.min_eq_right hle, ht]
    exact congrArg List.sum (List.map_congr_left fun i _ => (classTake_eq n members excess i total ht).trans (if_pos hle))
  obtain ⟨parts, hparts⟩ : ∃ parts, parts = ((n.givers members).map fun j => excess * (n.record j).room / total).sum := ⟨_, rfl⟩
  have htotal : total = ((n.givers members).map fun j => (n.record j).room).sum := by rw [sum_givers n members _ fun j hj => hj, ht]
  have hbounds := sum_parts (n.givers members) (fun j => (n.record j).room) excess total htotal (by omega)
  have htake : ∀ i ∈ n.givers members, n.classTake members excess i = excess * (n.record i).room / total
      + if ((n.givers members).filter fun j => decide (j < i)).length < excess - parts then 1 else 0 := fun i hi => by
    rw [classTake_eq n members excess i total ht, if_neg hle, ← hparts]
    have hroom : 0 < (n.record i).room := of_decide_eq_true (List.mem_filter.mp hi).2
    simp only [hroom, true_and]
  rw [← sum_givers n members _ fun j hj => Nat.le_zero.mp (hj ▸ classTake_le_room n members excess j),
    List.map_congr_left htake, List.sum_map_add, count_ahead (n.givers members) (hs.filter _), ← hparts]
  omega

/-! ## The excess that reaches each class (R33, R34) -/

theorem ofClass_sorted (n : Snapshot) (k : DrawClass) : (n.ofClass n.survivors k).Pairwise (· < ·) := (survivors_sorted n).filter _

/-- R33 to R35: what class reduction takes in all is the excess, or all the room where that is less. -/
theorem sum_reduction (n : Snapshot) (excess : Nat) :
    (n.survivors.map (n.reduction n.survivors excess)).sum = min excess (n.survivors.map fun i => (n.record i).room).sum := by
  have hsplit : ∀ (is : List Slot) (g : Slot → Nat), (is.map g).sum
      = ((n.ofClass is .c).map g).sum + ((n.ofClass is .b).map g).sum + ((n.ofClass is .a).map g).sum := by
    intro is g
    induction is with
    | nil => rfl
    | cons i is ih =>
      simp only [Snapshot.ofClass, List.filter_cons] at ih ⊢
      cases (n.record i).cls <;> simp [ih] <;> omega
  have hclass : ∀ k, ((n.ofClass n.survivors k).map (n.reduction n.survivors excess)).sum
      = min (n.excessAt n.survivors excess k) (n.roomSum n.survivors k) := fun k => by
    rw [Snapshot.roomSum, sumOver, ← sum_classTake n _ (ofClass_sorted n k)]
    refine congrArg List.sum (List.map_congr_left fun i hi => ?_)
    have : (n.record i).cls = k := of_decide_eq_true (List.mem_filter.mp hi).2
    simp only [Snapshot.reduction, this]
  rw [hsplit, hsplit n.survivors fun i => (n.record i).room, hclass, hclass, hclass]
  simp only [Snapshot.excessAt, Snapshot.roomSum, sumOver]
  omega

/-- R34: where anything of an excess reaches a class, the classes before it in the order C, B, A give all their room. -/
theorem room_le_excessAt (n : Snapshot) {excess : Nat} {k k' : DrawClass} (hk : k.code < k'.code)
    (h : 0 < n.excessAt n.survivors excess k) : n.roomSum n.survivors k' ≤ n.excessAt n.survivors excess k' := by
  cases k <;> cases k' <;> simp only [DrawClass.code, Snapshot.excessAt] at hk h ⊢ <;> omega

theorem mem_ofClass {n : Snapshot} {is : List Slot} {i : Slot} {k : DrawClass} :
    i ∈ n.ofClass is k ↔ i ∈ is ∧ (n.record i).cls = k := by
  simp [Snapshot.ofClass]

theorem reduction_le_room (n : Snapshot) (is : List Slot) (excess : Nat) (i : Slot) :
    n.reduction is excess i ≤ (n.record i).room := classTake_le_room n _ _ i

theorem reduction_eq_room (n : Snapshot) {excess : Nat} {i : Slot}
    (h : n.roomSum n.survivors (n.record i).cls ≤ n.excessAt n.survivors excess (n.record i).cls) :
    n.reduction n.survivors excess i = (n.record i).room :=
  (classTake_eq n _ _ i _ rfl).trans (if_pos h)

/-- R34: a record gives only once the classes before its own have given all their room. -/
theorem reduction_order (n : Snapshot) {excess : Nat} {i j : Slot} (hi : i ∈ n.survivors)
    (hcls : (n.record i).cls.code < (n.record j).cls.code) (hgives : 0 < n.reduction n.survivors excess i) :
    n.reduction n.survivors excess j = (n.record j).room := by
  refine reduction_eq_room n (room_le_excessAt n hcls (Nat.pos_of_ne_zero fun h0 => ?_))
  have : n.reduction n.survivors excess i = 0 := by
    rw [Snapshot.reduction, h0]
    exact classTake_zero n (mem_ofClass.mpr ⟨hi, rfl⟩)
  omega

/-! ## Re-admission (R36, R37) -/

theorem mem_candidates (n : Snapshot) (i : Slot) :
    i ∈ n.candidates ↔ (n.record i).state = .pending ∨ (n.record i).state = .shed := by
  have hrank : ∀ k : Fin 8, k ∈ ranksUp := by decide
  simp [Snapshot.candidates, hrank, mem_slots]

theorem candidates_pairwise (n : Snapshot) :
    n.candidates.Pairwise fun i j => (n.record i).rank < (n.record j).rank ∨ ((n.record i).rank = (n.record j).rank ∧ i < j) := by
  refine List.pairwise_flatMap.mpr ⟨fun k _ => ?sameRank, ?ranks⟩
  case sameRank =>
    refine List.Pairwise.imp_of_mem ?_ (slots_sorted.filter _)
    intro i j hi hj hlt
    simp only [List.mem_filter, Bool.and_eq_true, decide_eq_true_eq] at hi hj
    exact .inr ⟨hi.2.2.trans hj.2.2.symm, hlt⟩
  case ranks =>
    refine List.Pairwise.imp ?_ (by decide : ranksUp.Pairwise (fun a b => a < b))
    intro a b hab i hi j hj
    simp only [List.mem_filter, Bool.and_eq_true, decide_eq_true_eq] at hi hj
    exact .inl (hi.2.2 ▸ hj.2.2 ▸ hab)

theorem candidates_nodup (n : Snapshot) : n.candidates.Nodup := by
  refine (candidates_pairwise n).imp ?_
  rintro i j h rfl
  rcases h with h | ⟨-, h⟩ <;> exact lt_irrefl _ h

theorem admitFrom_sublist (n : Snapshot) (cap : Nat) (is : List Slot) (used : Nat) : (admitFrom n cap is used).Sublist is := by
  induction is generalizing used with
  | nil => exact .slnil
  | cons i is ih =>
    unfold admitFrom
    dsimp only
    split
    · exact (ih _).cons_cons i
    · exact (ih _).cons i

/-- R36: the floors admitted fit under the cap beside what is used already. -/
theorem admitFrom_fits (n : Snapshot) (cap : Nat) (is : List Slot) (used : Nat) (h : used ≤ cap) :
    used + ((admitFrom n cap is used).map fun i => (n.record i).floor).sum ≤ cap := by
  induction is generalizing used with
  | nil => simpa [admitFrom] using h
  | cons i is ih =>
    unfold admitFrom
    dsimp only
    split
    next hfits =>
      have := ih _ hfits.1
      rw [List.map_cons, List.sum_cons]
      omega
    · exact ih used h

/-- R36: a candidate is admitted where its floor fits beside those admitted before it. -/
theorem mem_admitFrom (n : Snapshot) (cap : Nat) (before : List Slot) (i : Slot) (after : List Slot) (used : Nat)
    (hn : (before ++ i :: after).Nodup) :
    i ∈ admitFrom n cap (before ++ i :: after) used ↔ (n.record i).floor ≤ (n.record i).online
      ∧ used + ((before.filter fun j => decide (j ∈ admitFrom n cap (before ++ i :: after) used)).map
          fun j => (n.record j).floor).sum + (n.record i).floor ≤ cap := by
  induction before generalizing used with
  | nil =>
    have hafter : ∀ u, i ∉ admitFrom n cap after u := fun u hi =>
      (List.nodup_cons.mp hn).1 ((admitFrom_sublist n cap after u).subset hi)
    rw [List.nil_append, List.filter_nil, List.map_nil, List.sum_nil, Nat.add_zero, admitFrom]
    split
    next h => exact iff_of_true List.mem_cons_self h.symm
    next h => exact iff_of_false (hafter _) fun h' => h h'.symm
  | cons b bs ih =>
    obtain ⟨hb, hbs⟩ := List.nodup_cons.mp hn
    have hbi : i ≠ b := fun e => hb (by simp [e])
    rw [List.cons_append, admitFrom]
    split
    next h =>
      have hfilter : (b :: bs).filter (fun j => decide (j ∈ b :: admitFrom n cap (bs ++ i :: after) (used + (n.record b).floor)))
          = b :: bs.filter fun j => decide (j ∈ admitFrom n cap (bs ++ i :: after) (used + (n.record b).floor)) := by
        rw [List.filter_cons_of_pos (by simp)]
        refine congrArg (b :: ·) (List.filter_congr fun j hj => ?_)
        have hjb : j ≠ b := fun e => hb (by simp [← e, hj])
        simp [hjb]
      rw [hfilter, List.mem_cons, or_iff_right hbi, ih _ hbs, List.map_cons, List.sum_cons]
      exact and_congr_right fun _ => by omega
    next h =>
      have hbnot : b ∉ admitFrom n cap (bs ++ i :: after) used := fun h' => hb ((admitFrom_sublist n cap _ used).subset h')
      rw [ih _ hbs, List.filter_cons_of_neg (by simpa using hbnot)]

theorem readmits_iff (st : SeqState) : st.readmits = true ↔ st = .normal ∨ st = .restoring := by
  cases st <;> decide

theorem admitted_cases (n : Snapshot) :
    n.admitted = [] ∨ (n.breach = false ∧ n.demandSum n.survivors ≤ n.cap
      ∧ n.admitted = admitFrom n n.cap n.candidates (n.demandSum n.survivors)) := by
  unfold Snapshot.admitted
  dsimp only
  split
  next h => exact .inr ⟨h.2.1, h.2.2, rfl⟩
  · exact .inl rfl

theorem admitted_sublist (n : Snapshot) : n.admitted.Sublist n.candidates := by
  rcases admitted_cases n with h | ⟨-, -, h⟩
  · rw [h]; exact List.nil_sublist _
  · rw [h]; exact admitFrom_sublist _ _ _ _

theorem mem_admitted_state {n : Snapshot} {i : Slot} (h : i ∈ n.admitted) :
    (n.record i).state = .pending ∨ (n.record i).state = .shed := (mem_candidates n i).mp ((admitted_sublist n).subset h)

theorem not_survivor_of_admitted {n : Snapshot} {i : Slot} (h : i ∈ n.admitted) : i ∉ n.survivors := fun hs => by
  have hst := (mem_survivors.mp hs).1
  rcases mem_admitted_state h with hp | hp <;> simp [hp] at hst

theorem admitted_nodup (n : Snapshot) : n.admitted.Nodup := (candidates_nodup n).sublist (admitted_sublist n)

/-- Settles O33: `mem_admitFrom`, candidate by candidate. -/
theorem readmissionTakesCandidates : Obligations.ReadmissionTakesCandidates := by
  intro n demands hd
  have hd' : n.demandSum n.survivors = demands := hd.symm
  refine ⟨mem_candidates n, candidates_pairwise n, fun h => ?_, fun hst hbreach hle => ⟨admitted_sublist n, ?_⟩⟩
  · rw [Snapshot.admitted]
    exact if_neg fun h' => h ⟨(readmits_iff _).mp h'.1, h'.2.1, hd' ▸ h'.2.2⟩
  · intro before i after hsplit
    have hadmitted : n.admitted = admitFrom n n.cap (before ++ i :: after) demands := by
      rw [Snapshot.admitted, ← hsplit, ← hd']
      exact if_pos ⟨(readmits_iff _).mpr hst, hbreach, hd' ▸ hle⟩
    rw [hadmitted]
    exact mem_admitFrom n n.cap before i after demands (hsplit ▸ candidates_nodup n)

end Sys2Proof.Machine

/-!
The grants of a pass, one by one and in sum (R31, R33 to R37, R41).
-/

namespace Sys2Proof.Machine

/-! ## The grant of one record -/

theorem grant_breach {n : Snapshot} {i : Slot} (hi : i ∈ n.survivors) (hb : n.breach = true) : n.grant i = (n.record i).floorValue := by
  simp only [Snapshot.grant, hi, hb, ↓reduceIte]

theorem grant_met {n : Snapshot} {i : Slot} (hi : i ∈ n.survivors) (hb : n.breach = false) (hd : n.demandSum n.survivors ≤ n.cap) :
    n.grant i = (n.record i).demand := by
  simp only [Snapshot.grant, hi, hb, hd, Bool.false_eq_true, ↓reduceIte]

theorem grant_reduced {n : Snapshot} {i : Slot} (hi : i ∈ n.survivors) (hb : n.breach = false) (hd : n.cap < n.demandSum n.survivors) :
    n.grant i = (n.record i).demand - n.reduction n.survivors (n.demandSum n.survivors - n.cap) i := by
  simp only [Snapshot.grant, hi, hb, hd.not_ge, Bool.false_eq_true, ↓reduceIte]

theorem grant_admitted {n : Snapshot} {i : Slot} (hi : i ∈ n.admitted) : n.grant i = (n.record i).floor := by
  simp only [Snapshot.grant, not_survivor_of_admitted hi, hi, ↓reduceIte]

theorem grant_none {n : Snapshot} {i : Slot} (hs : i ∉ n.survivors) (ha : i ∉ n.admitted) : n.grant i = 0 := by
  simp only [Snapshot.grant, hs, ha, ↓reduceIte]

/-- R31, R33: a survivor is granted at least its floor value and at most its demand. -/
theorem grant_bounds {n : Snapshot} {i : Slot} (hi : i ∈ n.survivors) :
    (n.record i).floorValue ≤ n.grant i ∧ n.grant i ≤ (n.record i).demand := by
  have hle := floorValue_le_demand (n.record i)
  cases hb : n.breach with
  | true => rw [grant_breach hi hb]; exact ⟨le_rfl, hle⟩
  | false =>
    rcases Nat.lt_or_ge n.cap (n.demandSum n.survivors) with hd | hd
    · have := reduction_le_room n n.survivors (n.demandSum n.survivors - n.cap) i
      rw [room_eq] at this
      rw [grant_reduced hi hb hd]
      omega
    · rw [grant_met hi hb hd]; exact ⟨hle, le_rfl⟩

/-- R34: where a record is granted less than its demand, the records of the classes reduced before its own are at their floor values. -/
theorem grant_order {n : Snapshot} {i j : Slot} (hi : i ∈ n.survivors) (hj : j ∈ n.survivors) (hb : n.breach = false)
    (hless : n.grant i < (n.record i).demand) (hcls : (n.record i).cls.code < (n.record j).cls.code) :
    n.grant j = (n.record j).floorValue := by
  rcases Nat.lt_or_ge n.cap (n.demandSum n.survivors) with hd | hd
  · rw [grant_reduced hi hb hd] at hless
    rw [grant_reduced hj hb hd, reduction_order n hi hcls (by omega), room_eq]
    have := floorValue_le_demand (n.record j)
    omega
  · rw [grant_met hi hb hd] at hless
    exact absurd hless (lt_irrefl _)

/-! ## The leftover of a class (R35) -/

/-- R33, R34: what the classes reduced before a class take when all their room goes. -/
theorem excessAt_eq (n : Snapshot) (excess : Nat) (k : DrawClass) :
    n.excessAt n.survivors excess k
      = excess - ((n.survivors.filter fun j => decide (k.code < (n.record j).cls.code)).map fun j => (n.record j).room).sum := by
  have hsum : ∀ is : List Slot, ((is.filter fun j => decide (k.code < (n.record j).cls.code)).map fun j => (n.record j).room).sum
      = (if k.code < 2 then n.roomSum is .c else 0) + if k.code < 1 then n.roomSum is .b else 0 := by
    intro is
    simp only [Snapshot.roomSum, sumOver, Snapshot.ofClass]
    induction is with
    | nil => simp
    | cons i is ih =>
      cases k <;> cases h : (n.record i).cls <;>
        simp only [DrawClass.code, List.filter_cons, h, Nat.reduceLT, decide_true, decide_false, reduceCtorEq, ↓reduceIte,
          Bool.false_eq_true, List.map_cons, List.sum_cons] at ih ⊢ <;> omega
  rw [hsum]
  cases k <;> simp only [Snapshot.excessAt, DrawClass.code, Nat.reduceLT, ↓reduceIte] <;> omega

/-- The position of a slot in a rising list is the number of slots below it. -/
theorem length_below {before after : List Slot} {i : Slot} (h : (before ++ i :: after).Pairwise (· < ·)) :
    ((before ++ i :: after).filter fun j => decide (j < i)).length = before.length := by
  obtain ⟨-, hafter, hbefore⟩ := List.pairwise_append.mp h
  have hb : before.filter (fun j => decide (j < i)) = before :=
    List.filter_eq_self.mpr fun j hj => decide_eq_true (hbefore j hj i List.mem_cons_self)
  have ha : after.filter (fun j => decide (j < i)) = [] :=
    List.filter_eq_nil_iff.mpr fun j hj => by simpa using (List.rel_of_pairwise_cons hafter hj).le
  rw [List.filter_append, hb, List.filter_cons_of_neg (by simp), ha, List.append_nil]

/-- R35: a class whose room exceeds the excess that reaches it gives by room, with the leftover to the first. -/
theorem reduction_parts {n : Snapshot} {excess e total : Nat} {i : Slot} {before after : List Slot}
    (hmembers : n.givers (n.ofClass n.survivors (n.record i).cls) = before ++ i :: after)
    (hexcess : n.excessAt n.survivors e (n.record i).cls = excess)
    (htotal : total = ((before ++ i :: after).map fun j => (n.record j).room).sum) (hlt : excess < total) :
    n.reduction n.survivors e i = excess * (n.record i).room / total
      + if before.length < excess - ((before ++ i :: after).map fun j => excess * (n.record j).room / total).sum then 1 else 0 := by
  have hi : i ∈ n.givers (n.ofClass n.survivors (n.record i).cls) := by simp [hmembers]
  have hroom : 0 < (n.record i).room := of_decide_eq_true (List.mem_filter.mp hi).2
  have ht : total = ((n.ofClass n.survivors (n.record i).cls).map fun j => (n.record j).room).sum := by
    rw [htotal, ← hmembers, sum_givers n _ _ fun j hj => hj]
  have hsorted : (before ++ i :: after).Pairwise (· < ·) := hmembers ▸ (ofClass_sorted n _).filter _
  rw [Snapshot.reduction, hexcess, classTake_eq n _ _ i total ht, if_neg (by omega), hmembers, length_below hsorted]
  simp only [hroom, true_and]

/-- Settles O31: the grant of one record by what becomes of it, and the two parts of class reduction. -/
theorem grantsFollowClasses : Obligations.GrantsFollowClasses := by
  intro n i demands hd
  have hd' : n.demandSum n.survivors = demands := hd.symm
  refine ⟨mem_survivors, grant_bounds, grant_breach, fun hi hb hle => grant_met hi hb (hd' ▸ hle),
    fun hi hb hless j hj hcls => grant_order hi hj hb hless hcls, grant_admitted, grant_none, survivors_sorted n, ?leftover⟩
  intro room members before after later total excess hroom hlater hmembers htotal hb hdem hlt hsplit
  obtain rfl : room = fun j => (n.record j).room := funext fun j => (hroom j).trans (room_eq _).symm
  have hgivers : n.givers (n.ofClass n.survivors (n.record i).cls) = members := by
    rw [hmembers, Snapshot.givers, Snapshot.ofClass, List.filter_filter]
    refine List.filter_congr fun j _ => ?_
    rw [Bool.eq_iff_iff]
    simp [and_comm]
  have hi : i ∈ n.survivors := by
    have : i ∈ members := by simp [hsplit]
    exact (List.mem_filter.mp (hmembers ▸ this)).1
  rw [hsplit] at htotal hgivers ⊢
  rcases Nat.lt_or_ge n.cap demands with hover | hmet
  · have hexcess : n.excessAt n.survivors (demands - n.cap) (n.record i).cls = excess := by
      rw [excessAt_eq, ← hlater]
      omega
    rw [grant_reduced hi hb (hd'.symm ▸ hover), hd', reduction_parts hgivers hexcess htotal hlt]
  · have h0 : excess = 0 := by omega
    rw [grant_met hi hb (hd'.symm ▸ hmet), h0]
    simp

/-! ## The grants in sum (R41) -/

/-- The grants of a pass are those of its survivors and those of the records it admits. -/
theorem sum_grants (n : Snapshot) :
    (slots.map n.grant).sum = (n.survivors.map n.grant).sum + (n.admitted.map fun i => (n.record i).floor).sum := by
  rw [sum_slots, sum_map_nodup (nodup_of_lt (survivors_sorted n)), sum_map_nodup (admitted_nodup n), ← Finset.sum_add_distrib]
  refine Finset.sum_congr rfl fun i _ => ?_
  by_cases hs : i ∈ n.survivors
  · have ha : i ∉ n.admitted := fun ha => not_survivor_of_admitted ha hs
    simp [hs, ha]
  · by_cases ha : i ∈ n.admitted
    · simp [hs, ha, grant_admitted ha]
    · simp [hs, ha, grant_none hs ha]

/-- R29, R30: the floor sum is what was dropped and what survives. -/
theorem floors_slots (n : Snapshot) : n.floors slots = n.floors n.dropped + n.floors n.survivors := by
  rw [Snapshot.floors, sum_slots, Snapshot.floors, sum_map_nodup (dropped_nodup n), Snapshot.floors,
    sum_map_nodup (nodup_of_lt (survivors_sorted n)), ← Finset.sum_add_distrib]
  refine Finset.sum_congr rfl fun i _ => ?_
  by_cases hd : i ∈ n.dropped
  · have hs : i ∉ n.survivors := fun hs => (mem_survivors.mp hs).2 hd
    simp [hd, hs]
  · by_cases hs : i ∈ n.survivors
    · simp [hd, hs]
    · have hst : ¬((n.record i).state = .active ∨ (n.record i).state = .engaging ∨ (n.record i).state = .releasing) :=
        fun h => hs (mem_survivors.mpr ⟨h, hd⟩)
      have h0 : (n.record i).floorValue = 0 := by
        unfold SnapRecord.floorValue
        cases h : (n.record i).state <;> simp [h] at hst ⊢
      simp [hd, hs, h0]

theorem sum_demands (n : Snapshot) (is : List Slot) :
    n.demandSum is = n.floors is + (is.map fun i => (n.record i).room).sum := by
  rw [Snapshot.demandSum, sumOver, Snapshot.floors, ← List.sum_map_add]
  refine congrArg List.sum (List.map_congr_left fun i _ => ?_)
  have := floorValue_le_demand (n.record i)
  rw [room_eq]
  omega

theorem admitted_nil_of_breach {n : Snapshot} (hb : n.breach = true) : n.admitted = [] := by
  rcases admitted_cases n with h | ⟨h, -⟩
  · exact h
  · rw [hb] at h; cases h

theorem admitted_nil_of_over {n : Snapshot} (hd : n.cap < n.demandSum n.survivors) : n.admitted = [] := by
  rcases admitted_cases n with h | ⟨-, h, -⟩
  · exact h
  · exact absurd h hd.not_ge

theorem sum_grants_met {n : Snapshot} (hb : n.breach = false) (hd : n.demandSum n.survivors ≤ n.cap) :
    (slots.map n.grant).sum ≤ n.cap := by
  have hdemands : (n.survivors.map n.grant).sum = n.demandSum n.survivors :=
    congrArg List.sum (List.map_congr_left fun i hi => grant_met hi hb hd)
  rw [sum_grants, hdemands]
  rcases admitted_cases n with h | ⟨-, -, h⟩
  · rw [h]; simpa using hd
  · rw [h]; exact admitFrom_fits n n.cap _ _ hd

theorem sum_grants_over {n : Snapshot} (hb : n.breach = false) (hd : n.cap < n.demandSum n.survivors) :
    (slots.map n.grant).sum = n.cap := by
  obtain ⟨excess, hexcess⟩ : ∃ e, e = n.demandSum n.survivors - n.cap := ⟨_, rfl⟩
  have hfloors : n.floors n.survivors ≤ n.cap := by
    have h1 := (breach_iff n).not.mp (by simp [hb])
    have h2 := floors_slots n
    omega
  have hgive : (n.survivors.map n.grant).sum + (n.survivors.map (n.reduction n.survivors excess)).sum = n.demandSum n.survivors := by
    rw [Snapshot.demandSum, sumOver, ← List.sum_map_add]
    refine congrArg List.sum (List.map_congr_left fun i hi => ?_)
    have h1 := reduction_le_room n n.survivors excess i
    rw [room_eq] at h1
    rw [grant_reduced hi hb hd, ← hexcess]
    omega
  have hroom := sum_demands n n.survivors
  rw [sum_reduction, Nat.min_eq_left (by omega)] at hgive
  rw [sum_grants, admitted_nil_of_over hd, List.map_nil, List.sum_nil]
  omega

theorem sum_grants_breach {n : Snapshot} (hb : n.breach = true) :
    (slots.map n.grant).sum = n.floors n.survivors ∧ n.cap < (slots.map n.grant).sum := by
  have hsum : (slots.map n.grant).sum = n.floors n.survivors := by
    rw [sum_grants, admitted_nil_of_breach hb, List.map_nil, List.sum_nil, Nat.add_zero]
    exact congrArg List.sum (List.map_congr_left fun i hi => grant_breach hi hb)
  have h1 := (breach_iff n).mp hb
  have h2 := floors_slots n
  exact ⟨hsum, by omega⟩

/-- R41: the grants of a pass without a breach keep within its cap. -/
theorem sum_grants_le {n : Snapshot} (hb : n.breach = false) : (slots.map n.grant).sum ≤ n.cap := by
  rcases Nat.lt_or_ge n.cap (n.demandSum n.survivors) with hd | hd
  · exact (sum_grants_over hb hd).le
  · exact sum_grants_met hb hd

/-- Settles O32: the three outcomes of a pass. -/
theorem grantsKeepWithinCap : Obligations.GrantsKeepWithinCap := by
  intro n total demands ht hd
  have hd' : n.demandSum n.survivors = demands := hd.symm
  rw [ht]
  refine ⟨fun hb => sum_grants_le hb, fun hb hlt => sum_grants_over hb ?_, fun hb => sum_grants_breach hb⟩
  rwa [hd']

end Sys2Proof.Machine

/-!
Operations at one slot: what they do depends on the record there and its feeders, and they leave every other record and channel as
it was. So the work of a publication and of a step expiry, done slot by slot, comes out as if each slot had been alone (R38, R54).
-/

namespace Sys2Proof.Machine

/-! ## What an event leaves as it was -/

/-- From `s` to `t` nothing changes but records, channels, the Engine, attention and banks. -/
abbrev RestKept (s t : State) : Prop :=
  { t with table := s.table, channels := s.channels, engine := s.engine, attention := s.attention, banks := s.banks } = s

theorem RestKept.trans {s t u : State} (h : RestKept s t) (k : RestKept t u) : RestKept s u :=
  (congrArg (fun x : State => { x with table := s.table, channels := s.channels, engine := s.engine, attention := s.attention, banks := s.banks }) k).trans h

theorem RestKept.seq {s t : State} (h : RestKept s t) : t.seq = s.seq := by
  have e := congrArg State.seq h
  exact e
theorem RestKept.timing {s t : State} (h : RestKept s t) : t.timing = s.timing := by
  have e := congrArg State.timing h
  exact e
theorem RestKept.ramp {s t : State} (h : RestKept s t) : t.ramp = s.ramp := by
  have e := congrArg State.ramp h
  exact e
theorem RestKept.port {s t : State} (h : RestKept s t) : t.port = s.port := by
  have e := congrArg State.port h
  exact e
theorem RestKept.lines {s t : State} (h : RestKept s t) : t.lines = s.lines := by
  have e := congrArg State.lines h
  exact e
theorem RestKept.grid {s t : State} (h : RestKept s t) : t.grid = s.grid := by
  have e := congrArg State.grid h
  exact e

theorem restKept_foldl {α : Type} {F : State → α → State} (hF : ∀ s a, RestKept s (F s a)) (as : List α) (s : State) :
    RestKept s (as.foldl F s) := by
  induction as generalizing s with
  | nil => rfl
  | cons a as ih => exact (hF s a).trans (ih (F s a))

theorem restKept_requestPass (s : State) : RestKept s s.requestPass := by rw [requestPass_eq]; rfl
theorem restKept_requestIf (s : State) (b : Bool) : RestKept s (s.requestIf b) := by rw [requestIf_eq]; rfl
theorem restKept_captureAs (s : State) (x : FaultName) (k : Nat) (st : SeqState) : RestKept s (s.captureAs x k st) := by
  rw [captureAs_eq]
theorem restKept_movePresent (s : State) (i : Slot) (p : Nat) : RestKept s (s.movePresent i p) := by rw [movePresent_eq]; rfl
theorem restKept_endDescent (s : State) (i : Slot) : RestKept s (s.endDescent i) := by rw [endDescent_eq]; rfl
theorem restKept_lowerFrozen (s : State) (n : Nat) (fs : List Feeder) : RestKept s (s.lowerFrozen n fs) := by rw [lowerFrozen_eq]

/-! ## Operations at one slot -/

/-- Two states agree in the record at a slot, its feeders, the Sequencer and the timing settings. -/
structure Agree (i : Slot) (s t : State) : Prop where
  record : s.record i = t.record i
  channels : ∀ f ∈ (s.record i).feeders, s.channel f.channel = t.channel f.channel
  seq : s.seq = t.seq
  timing : s.timing = t.timing

/-- An operation at one slot touches the record there and its feeders alone, and depends on no other record or channel. -/
structure SlotOp (i : Slot) (F : State → State) : Prop where
  record_ne : ∀ s j, i ≠ j → (F s).record j = s.record j
  channel_other : ∀ s c, (∀ f ∈ (s.record i).feeders, f.channel ≠ c) → (F s).channel c = s.channel c
  feeders : ∀ s, ((F s).record i).feeders = (s.record i).feeders
  rest : ∀ s, RestKept s (F s)
  congr : ∀ s t, Agree i s t → Agree i (F s) (F t)

theorem slotOp_id (i : Slot) : SlotOp i fun s => s := ⟨fun _ _ _ => rfl, fun _ _ _ => rfl, fun _ => rfl, fun _ => rfl, fun _ _ h => h⟩

theorem SlotOp.comp {i : Slot} {F G : State → State} (hF : SlotOp i F) (hG : SlotOp i G) : SlotOp i fun s => G (F s) where
  record_ne s j h := (hG.record_ne (F s) j h).trans (hF.record_ne s j h)
  channel_other s c h := (hG.channel_other (F s) c (hF.feeders s ▸ h)).trans (hF.channel_other s c h)
  feeders s := (hG.feeders (F s)).trans (hF.feeders s)
  rest s := (hF.rest s).trans (hG.rest (F s))
  congr s t h := hG.congr _ _ (hF.congr s t h)

/-- A choice between two operations that depends on the record, its feeders, the Sequencer and the settings. -/
theorem SlotOp.ite {i : Slot} {F G : State → State} (p : State → Prop) [∀ s, Decidable (p s)] (hp : ∀ s t, Agree i s t → (p s ↔ p t))
    (hF : SlotOp i F) (hG : SlotOp i G) : SlotOp i fun s => if p s then F s else G s where
  record_ne s j h := by split; exacts [hF.record_ne s j h, hG.record_ne s j h]
  channel_other s c h := by split; exacts [hF.channel_other s c h, hG.channel_other s c h]
  feeders s := by split; exacts [hF.feeders s, hG.feeders s]
  rest s := by split; exacts [hF.rest s, hG.rest s]
  congr s t h := by
    have := hp s t h
    by_cases hs : p s
    · rw [if_pos hs, if_pos (this.mp hs)]; exact hF.congr s t h
    · rw [if_neg hs, if_neg fun ht => hs (this.mpr ht)]; exact hG.congr s t h

/-- A change of attention, banks or the Engine is none of a record or a channel. -/
theorem slotOp_of_same {i : Slot} {F : State → State} (hr : ∀ s j, (F s).record j = s.record j)
    (hc : ∀ s c, (F s).channel c = s.channel c) (hrest : ∀ s, RestKept s (F s)) : SlotOp i F where
  record_ne s j _ := hr s j
  channel_other s c _ := hc s c
  feeders s := by rw [hr]
  rest := hrest
  congr s t h := by
    refine ⟨by rw [hr, hr, h.record], fun f hf => ?_, by rw [(hrest s).seq, (hrest t).seq, h.seq],
      by rw [(hrest s).timing, (hrest t).timing, h.timing]⟩
    rw [hr] at hf
    rw [hc, hc, h.channels f hf]

theorem slotOp_requestPass (i : Slot) : SlotOp i State.requestPass :=
  slotOp_of_same (by simp) (by simp) restKept_requestPass

/-- A record replaced by what a function makes of it, its feeders kept. -/
theorem slotOp_setRecord {i : Slot} (g : State → DrawRecord → DrawRecord) (hf : ∀ s r, (g s r).feeders = r.feeders)
    (hg : ∀ s t, Agree i s t → g s (s.record i) = g t (t.record i)) : SlotOp i fun s => s.setRecord i (g s (s.record i)) where
  record_ne s j h := record_setRecord_ne s _ h
  channel_other _ _ _ := rfl
  feeders s := by rw [record_setRecord_self, hf]
  rest _ := rfl
  congr s t h := by
    refine ⟨by simp only [record_setRecord_self, hg s t h], fun f hf' => h.channels f ?_, h.seq, h.timing⟩
    rwa [record_setRecord_self, hf] at hf'

/-! ## Changes of a record's feeders -/

theorem foldFeeders_congr {s t : State} (g : Feeder → Channel → Channel) {cs : List Feeder} (fs : List Feeder) (hsub : ∀ f ∈ fs, f ∈ cs)
    (h : ∀ f ∈ cs, s.channel f.channel = t.channel f.channel) (f : Feeder) (hf : f ∈ cs) :
    (fs.foldl (fun u f => u.setChannel f.channel (g f (u.channel f.channel))) s).channel f.channel
      = (fs.foldl (fun u f => u.setChannel f.channel (g f (u.channel f.channel))) t).channel f.channel := by
  induction fs generalizing s t with
  | nil => exact h f hf
  | cons e fs ih =>
    refine ih (fun f hf => hsub f (by simp [hf])) fun d hd => ?_
    rw [channel_setChannel, channel_setChannel, h e (hsub e (by simp)), h d hd]

/-- The channels of a record's feeders, each changed by its own function. -/
theorem slotOp_foldFeeders {i : Slot} {F : State → State} (g : State → Feeder → Channel → Channel)
    (hF : ∀ s, F s = (s.record i).feeders.foldl (fun u f => u.setChannel f.channel (g s f (u.channel f.channel))) s)
    (hg : ∀ s t, Agree i s t → g s = g t) : SlotOp i F := by
  have hrecord : ∀ s j, (F s).record j = s.record j := fun s j => by rw [hF, foldFeeders_eq]; rfl
  have hrest : ∀ s, RestKept s (F s) := fun s => by rw [hF, foldFeeders_eq]
  refine ⟨fun s j _ => hrecord s j, fun s c h => ?_, fun s => by rw [hrecord], hrest, fun s t h => ⟨?_, fun f hf => ?_, ?_, ?_⟩⟩
  · rw [hF]; exact foldFeeders_other _ _ s c h
  · rw [hrecord, hrecord, h.record]
  · rw [hrecord] at hf
    rw [hF, hF, ← h.record, ← hg s t h]
    exact foldFeeders_congr (g s) _ (fun _ h => h) h.channels f hf
  · rw [(hrest s).seq, (hrest t).seq, h.seq]
  · rw [(hrest s).timing, (hrest t).timing, h.timing]

theorem slotOp_zeroShares (i : Slot) : SlotOp i fun s => s.zeroShares i :=
  slotOp_foldFeeders (fun _ _ => Channel.noShare) (fun _ => rfl) fun _ _ _ => rfl

theorem Agree.feederSum {i : Slot} {s t : State} (h : Agree i s t) (g : Channel → Nat) :
    s.feederSum (s.record i).feeders g = t.feederSum (t.record i).feeders g := by
  rw [State.feederSum, State.feederSum, ← h.record]
  exact congrArg List.sum (List.map_congr_left fun f hf => by rw [h.channels f hf])

theorem Agree.frozenSum {i : Slot} {s t : State} (h : Agree i s t) : s.frozenSum i = t.frozenSum i := h.feederSum _
theorem Agree.carrying {i : Slot} {s t : State} (h : Agree i s t) : s.carrying i = t.carrying i := h.feederSum _
theorem Agree.ceff {i : Slot} {s t : State} (h : Agree i s t) : s.ceff i = t.ceff i := by rw [State.ceff, State.ceff, h.record, h.carrying]
theorem Agree.releaseBound {i : Slot} {s t : State} (h : Agree i s t) : s.releaseBound i = t.releaseBound i := by
  rw [State.releaseBound, State.releaseBound, h.record, h.frozenSum]

theorem openFeeders_congr {s t : State} (fs : List Feeder) (h : ∀ f ∈ fs, s.channel f.channel = t.channel f.channel) :
    s.openFeeders fs = t.openFeeders fs := by
  induction fs with
  | nil => rfl
  | cons f fs ih =>
    have hf := h f (by simp)
    have hfs := ih fun e he => h e (by simp [he])
    simp only [State.openFeeders, List.filter_cons, hf] at hfs ⊢
    split <;> simp only [List.map_cons, hf, hfs]

/-- R62, R63: a split depends on the feeders of the record, their channels and its present. -/
theorem placement_congr {s t : State} {i : Slot} (hfs : (s.record i).feeders = (t.record i).feeders)
    (hp : (s.record i).present = (t.record i).present) (hc : ∀ f ∈ (s.record i).feeders, s.channel f.channel = t.channel f.channel) :
    s.placement i = t.placement i := by
  have hfrozen : s.frozenSum i = t.frozenSum i := by
    rw [State.frozenSum, State.frozenSum, State.feederSum, State.feederSum, ← hfs]
    exact congrArg List.sum (List.map_congr_left fun f hf => by rw [hc f hf])
  rw [State.placement, State.placement]
  rw [← hfs, ← hp, hfrozen, openFeeders_congr _ hc]

theorem reSplit_congr {s t : State} {i : Slot} (hfs : (s.record i).feeders = (t.record i).feeders)
    (hp : (s.record i).present = (t.record i).present) (hc : ∀ f ∈ (s.record i).feeders, s.channel f.channel = t.channel f.channel) :
    ∀ f ∈ (s.record i).feeders, (s.reSplit i).channel f.channel = (t.reSplit i).channel f.channel := fun f hf => by
  rw [State.reSplit, State.reSplit]
  rw [← hfs, ← placement_congr hfs hp hc]
  exact foldFeeders_congr (fun f x => x.resplit (s.placement i) f.channel) _ (fun _ h => h) hc f hf

theorem slotOp_reSplit (i : Slot) : SlotOp i fun s => s.reSplit i :=
  slotOp_foldFeeders (fun s f x => x.resplit (s.placement i) f.channel) (fun _ => rfl) fun s t h => by
    funext f x
    rw [placement_congr (congrArg DrawRecord.feeders h.record) (congrArg DrawRecord.present h.record) h.channels]

theorem noteArrival_channel (s : State) (i : Slot) (before : Nat) (c : Chan) : (s.noteArrival i before).channel c = s.channel c := by
  rw [noteArrival_eq]; rfl

/-- R74: a present moved to what the record, its feeders and the settings give. -/
theorem slotOp_movePresent {i : Slot} (p : State → Nat) (hp : ∀ s t, Agree i s t → p s = p t) : SlotOp i fun s => s.movePresent i (p s) := by
  have hmove := (slotOp_setRecord (i := i) (fun s r => { r with present := p s }) (fun _ _ => rfl)
    (fun s t h => by rw [hp s t h, h.record])).comp (slotOp_reSplit i)
  refine ⟨fun s j h => ?_, fun s c h => ?_, fun s => ?_, fun s => restKept_movePresent s i _, fun s t h => ?_⟩
  · rw [movePresent_record, if_neg h]
  · exact (noteArrival_channel _ i _ c).trans (hmove.channel_other s c h)
  · rw [movePresent_record, if_pos rfl]
  · have hagree := hmove.congr s t h
    have hfeeders : ((s.movePresent i (p s)).record i).feeders = (s.record i).feeders := by rw [movePresent_record, if_pos rfl]
    refine ⟨?_, fun f hf => ?_, ?_, ?_⟩
    · rw [movePresent_record, movePresent_record, if_pos rfl, if_pos rfl, hp s t h, h.record]
    · rw [hfeeders] at hf
      refine (noteArrival_channel _ i _ _).trans ((hagree.channels f ?_).trans (noteArrival_channel _ i _ _).symm)
      rwa [hmove.feeders s]
    · rw [(restKept_movePresent s i _).seq, (restKept_movePresent t i _).seq, h.seq]
    · rw [(restKept_movePresent s i _).timing, (restKept_movePresent t i _).timing, h.timing]

theorem slotOp_endDescent (i : Slot) : SlotOp i fun s => s.endDescent i := by
  have h := (slotOp_zeroShares i).comp (slotOp_setRecord (i := i)
    (fun s r => { r with present := 0, releaseTimer := some s.timing.releaseTime }) (fun _ _ => rfl)
    fun s t h => by rw [h.record, h.timing])
  have hsame : ∀ s : State, s.endDescent i = (s.zeroShares i).setRecord i { (s.zeroShares i).record i with
      present := 0, releaseTimer := some (s.zeroShares i).timing.releaseTime } := fun s => by
    rw [State.endDescent, ((slotOp_zeroShares i).rest s).timing]
  simp only [hsame]
  exact h

theorem lowerFrozen_congr {s t : State} {cs : List Feeder} (fs : List Feeder) (hsub : ∀ f ∈ fs, f ∈ cs)
    (h : ∀ f ∈ cs, s.channel f.channel = t.channel f.channel) (excess : Nat) (f : Feeder) (hf : f ∈ cs) :
    (s.lowerFrozen excess fs).channel f.channel = (t.lowerFrozen excess fs).channel f.channel := by
  induction fs generalizing s t excess with
  | nil => exact h f hf
  | cons e fs ih =>
    have he := h e (hsub e (by simp))
    have hsub' : ∀ f ∈ fs, f ∈ cs := fun f hf => hsub f (by simp [hf])
    unfold State.lowerFrozen
    dsimp only
    rw [he]
    split
    · refine ih hsub' (fun d hd => ?_) _
      rw [channel_setChannel, channel_setChannel, h d hd]
    · exact ih hsub' h _

theorem lowerFrozen_other (s : State) (excess : Nat) (fs : List Feeder) (c : Chan) (h : ∀ f ∈ fs, f.channel ≠ c) :
    (s.lowerFrozen excess fs).channel c = s.channel c := by
  induction fs generalizing s excess with
  | nil => rfl
  | cons e fs ih =>
    unfold State.lowerFrozen
    dsimp only
    split
    · rw [ih _ _ fun f hf => h f (by simp [hf]), channel_setChannel_ne _ _ (h e (by simp))]
    · exact ih _ _ fun f hf => h f (by simp [hf])

@[simp] theorem lowerFrozen_record (s : State) (excess : Nat) (fs : List Feeder) (j : Slot) :
    (s.lowerFrozen excess fs).record j = s.record j := by rw [lowerFrozen_eq]; rfl

/-- R59: the frozen shares of a record lowered to fit under its grant. -/
theorem slotOp_lowerFrozen (i : Slot) :
    SlotOp i fun s => s.lowerFrozen (s.frozenSum i - (s.record i).grant) (s.record i).feeders.reverse where
  record_ne s j _ := lowerFrozen_record s _ _ j
  channel_other s c h := lowerFrozen_other s _ _ c fun f hf => h f (List.mem_reverse.mp hf)
  feeders s := by rw [lowerFrozen_record]
  rest s := restKept_lowerFrozen s _ _
  congr s t h := by
    refine ⟨by rw [lowerFrozen_record, lowerFrozen_record, h.record], fun f hf => ?_, ?_, ?_⟩
    · rw [lowerFrozen_record] at hf
      rw [h.frozenSum, ← h.record]
      exact lowerFrozen_congr _ (fun f hf => List.mem_reverse.mp hf) h.channels _ f hf
    · rw [(restKept_lowerFrozen s _ _).seq, (restKept_lowerFrozen t _ _).seq, h.seq]
    · rw [(restKept_lowerFrozen s _ _).timing, (restKept_lowerFrozen t _ _).timing, h.timing]

/-! ## The same operation at every slot of a list -/

/-- No channel is in the feeder lists of two slots (R11, R12). -/
abbrev FeedersApart (s : State) : Prop :=
  ∀ i j : Slot, ∀ f ∈ (s.record i).feeders, ∀ g ∈ (s.record j).feeders, f.channel = g.channel → i = j

theorem feedersApart_of_law {s : State} (h : FeederLaw s) : FeedersApart s := fun i j f hf g hg hc => by
  have h1 := (h i f.channel).mp ⟨f, hf, rfl⟩
  have h2 := (h j f.channel).mp ⟨g, hg, hc.symm⟩
  rw [h1] at h2
  exact Option.some.inj h2

theorem SlotOp.feeders_all {i : Slot} {F : State → State} (hF : SlotOp i F) (s : State) (j : Slot) :
    ((F s).record j).feeders = (s.record j).feeders := by
  by_cases h : i = j
  · subst h; exact hF.feeders s
  · rw [hF.record_ne s j h]

theorem SlotOp.apart {i : Slot} {F : State → State} (hF : SlotOp i F) {s : State} (h : FeedersApart s) : FeedersApart (F s) := by
  intro j k f hf g hg
  rw [hF.feeders_all] at hf hg
  exact h j k f hf g hg

/-- An operation at another slot leaves what an operation at this one depends on. -/
theorem SlotOp.agree_ne {i j : Slot} {F : State → State} (hF : SlotOp i F) {s : State} (h : FeedersApart s) (hij : i ≠ j) :
    Agree j (F s) s where
  record := hF.record_ne s j hij
  channels f hf := by
    rw [hF.record_ne s j hij] at hf
    exact hF.channel_other s _ fun g hg hc => hij (h i j g hg f hf hc)
  seq := (hF.rest s).seq
  timing := (hF.rest s).timing

section
variable {F : State → Slot → State} (hF : ∀ i, SlotOp i fun s => F s i)
include hF

/-- Operations at other slots leave what an operation at this one depends on. -/
theorem foldSlots_agree_other {s : State} (hs : FeedersApart s) (is : List Slot) {j : Slot} (hj : j ∉ is) : Agree j (is.foldl F s) s := by
  induction is generalizing s with
  | nil => exact ⟨rfl, fun _ _ => rfl, rfl, rfl⟩
  | cons i is ih =>
    simp only [List.mem_cons, not_or] at hj
    have hrest := ih ((hF i).apart hs) hj.2
    have hhead := (hF i).agree_ne hs (Ne.symm hj.1)
    exact ⟨hrest.record.trans hhead.record, fun f hf => (hrest.channels f hf).trans (hhead.channels f (by rwa [← hrest.record])),
      hrest.seq.trans hhead.seq, hrest.timing.trans hhead.timing⟩

/-- At each slot of the list the outcome is that of the one operation at it. -/
theorem foldSlots_agree {s : State} (hs : FeedersApart s) (is : List Slot) (hn : is.Nodup) {j : Slot} (hj : j ∈ is) :
    Agree j (is.foldl F s) (F s j) := by
  induction is generalizing s with
  | nil => cases hj
  | cons i is ih =>
    obtain ⟨hi, his⟩ := List.nodup_cons.mp hn
    rw [List.foldl_cons]
    rcases List.mem_cons.mp hj with rfl | hj
    · exact foldSlots_agree_other hF ((hF j).apart hs) is hi
    · have hij : i ≠ j := fun e => hi (e ▸ hj)
      have hrest := ih ((hF i).apart hs) his hj
      have hhead := (hF j).congr _ _ ((hF i).agree_ne hs hij)
      exact ⟨hrest.record.trans hhead.record, fun f hf => (hrest.channels f hf).trans (hhead.channels f (by rwa [← hrest.record])),
        hrest.seq.trans hhead.seq, hrest.timing.trans hhead.timing⟩

/-- A channel in none of the feeder lists is as it was. -/
theorem foldSlots_channel_other {s : State} (is : List Slot) {c : Chan}
    (hc : ∀ i ∈ is, ∀ f ∈ (s.record i).feeders, f.channel ≠ c) : (is.foldl F s).channel c = s.channel c := by
  induction is generalizing s with
  | nil => rfl
  | cons i is ih =>
    rw [List.foldl_cons, ih, (hF i).channel_other s c (hc i (by simp))]
    intro j hj f hf
    rw [(hF i).feeders_all] at hf
    exact hc j (by simp [hj]) f hf

theorem foldSlots_feeders {s : State} (is : List Slot) (j : Slot) : ((is.foldl F s).record j).feeders = (s.record j).feeders := by
  induction is generalizing s with
  | nil => rfl
  | cons i is ih => rw [List.foldl_cons, ih, (hF i).feeders_all]

/-- What each operation adds to a mark, each under a condition of its own slot, is added for the slots of the list. -/
theorem foldSlots_mark (kept mark : State → Prop) (b : State → Slot → Prop) (hb : ∀ i s t, Agree i s t → (b s i ↔ b t i))
    (hkept : ∀ s i, kept s → kept (F s i)) (hmark : ∀ s i, kept s → (mark (F s i) ↔ mark s ∨ b s i)) {s : State} (hk : kept s)
    (hs : FeedersApart s) (is : List Slot) (hn : is.Nodup) : mark (is.foldl F s) ↔ mark s ∨ ∃ i ∈ is, b s i := by
  induction is generalizing s with
  | nil => simp
  | cons i is ih =>
    obtain ⟨hi, his⟩ := List.nodup_cons.mp hn
    rw [List.foldl_cons, ih (hkept s i hk) ((hF i).apart hs) his, hmark s i hk, List.exists_mem_cons_iff, or_assoc]
    refine or_congr_right (or_congr_right (exists_congr fun j => and_congr_right fun hj => hb j _ _ ?_))
    exact (hF i).agree_ne hs fun e => hi (e ▸ hj)

/-- What each operation raises, each under a condition of its own slot, is raised for the slots of the list. -/
theorem foldSlots_raises (src : SourceNo) (b : State → Slot → Prop) (hb : ∀ i s t, Agree i s t → (b s i ↔ b t i))
    (hraise : ∀ s i, Raises s (F s i) src fun m => i.val = m ∧ b s i) {s : State} (hs : FeedersApart s) (is : List Slot) (hn : is.Nodup) :
    Raises s (is.foldl F s) src fun m => ∃ i ∈ is, i.val = m ∧ b s i := by
  induction is generalizing s with
  | nil => exact (raises_of_eq rfl).congr fun m => by simp
  | cons i is ih =>
    obtain ⟨hi, his⟩ := List.nodup_cons.mp hn
    refine ((hraise s i).trans (ih ((hF i).apart hs) his)).congr fun m => ?_
    rw [List.exists_mem_cons_iff]
    refine or_congr_right (exists_congr fun j => and_congr_right fun hj => and_congr_right fun _ => hb j _ _ ?_)
    exact (hF i).agree_ne hs fun e => hi (e ▸ hj)

end

end Sys2Proof.Machine

/-!
Publication (R38 to R43, R58 to R60): what each of its stages does to records, channels, the Engine, attention and banks.
-/

namespace Sys2Proof.Machine

/-! ## Captures in sum (R195 to R197) -/

/-- How full a bank is: 0 while it is not valid, and rising with its severity and its overflow. -/
def FaultBank.weight (b : FaultBank) : Nat := if b.valid then 1 + 2 * b.severity.code + (if b.overflow then 1 else 0) else 0

/-- R195, R196: a capture leaves a bank as it was or fuller. -/
theorem FaultBank.weight_take (b : FaultBank) (x : FaultName) (k : Nat) (st : SeqState) : b.take x k st = b ∨ b.weight < (b.take x k st).weight := by
  obtain ⟨valid, overflow, severity, code, index, q⟩ := b
  unfold FaultBank.take FaultBank.weight
  cases valid
  · right; simp only [↓reduceIte, Bool.false_eq_true]; omega
  · by_cases h : severity.code < x.severity.code
    · right; simp only [h, ↓reduceIte, reduceCtorEq]; split <;> omega
    · cases overflow <;> simp [h]

theorem capture_bank (s : State) (x : FaultName) (k : Nat) (b : BankNo) :
    (s.capture x k).bank b = if x.bank = b then (s.bank b).take x k s.seq.state else s.bank b := captureAs_bank s x k _ b

/-- R197: a capture raises FAULT for its bank exactly where it changes it. -/
theorem raises_captureAs (s : State) (x : FaultName) (k : Nat) (st : SeqState) :
    Raises s (s.captureAs x k st) srcFault fun m => m = x.bank.val ∧ (s.captureAs x k st).bank x.bank ≠ s.bank x.bank := by
  simp only [Raises, captureAs_source, captureAs_bank, and_true, ↓reduceIte, ← FaultBank.raises_iff]
  by_cases h : (s.bank x.bank).raises x = true
  · simp [h, mem_addMember]
  · simp [h]

theorem captureAs_source_ne (s : State) (x : FaultName) (k : Nat) (st : SeqState) {n : SourceNo} (h : n ≠ srcFault) :
    (s.captureAs x k st).source n = s.source n := by
  rw [captureAs_source, if_neg fun h' => h h'.2]

theorem captureAs_engine (s : State) (x : FaultName) (k : Nat) (st : SeqState) : (s.captureAs x k st).engine = s.engine := by
  rw [captureAs_eq]
theorem captureAs_record (s : State) (x : FaultName) (k : Nat) (st : SeqState) (j : Slot) : (s.captureAs x k st).record j = s.record j := by
  rw [captureAs_eq]; rfl
theorem captureAs_channel (s : State) (x : FaultName) (k : Nat) (st : SeqState) (c : Chan) : (s.captureAs x k st).channel c = s.channel c := by
  rw [captureAs_eq]; rfl

/-- A weight that two changes cannot lower changes back only where neither changed it. -/
theorem changed_iff {b c d : FaultBank} (h1 : c = b ∨ b.weight < c.weight) (h2 : d = c ∨ c.weight < d.weight) : d ≠ b ↔ c ≠ b ∨ d ≠ c := by
  rcases h1 with rfl | h1 <;> rcases h2 with rfl | h2
  · simp
  · simp
  · simp
  · have hd : d ≠ b := fun e => by rw [e] at h2; omega
    have hc : c ≠ b := fun e => by rw [e] at h1; omega
    simp [hd, hc]

/-! ## The same change at every slot of a list -/

/-- What each slot's record becomes under a change of each slot's own record. -/
theorem foldSlots_record {F : State → Slot → State} (g : Slot → Sequencer → Timing → DrawRecord → DrawRecord)
    (hF : ∀ s i j, (F s i).record j = if i = j then g i s.seq s.timing (s.record i) else s.record j)
    (hrest : ∀ s i, RestKept s (F s i)) (is : List Slot) (hn : is.Nodup) (s : State) (j : Slot) :
    (is.foldl F s).record j = if j ∈ is then g j s.seq s.timing (s.record j) else s.record j := by
  induction is generalizing s with
  | nil => simp
  | cons i is ih =>
    obtain ⟨hi, his⟩ := List.nodup_cons.mp hn
    rw [List.foldl_cons, ih his, hF, (hrest s i).seq, (hrest s i).timing]
    by_cases h : i = j
    · subst h; simp [hi]
    · simp [h, Ne.symm h]

/-- From `s` to `t` the Engine's items stay but for the rerun flag, which may set. -/
abbrev RerunsOnly (s t : State) : Prop :=
  t.engine = { s.engine with rerun := t.engine.rerun } ∧ (s.engine.rerun = true → t.engine.rerun = true)

theorem rerunsOnly_refl {s t : State} (h : t.engine = s.engine) : RerunsOnly s t := ⟨by rw [h], fun hr => by rw [h, hr]⟩

theorem RerunsOnly.pass {s t : State} (h : RerunsOnly s t) : t.engine.pass = s.engine.pass := by rw [h.1]

theorem RerunsOnly.trans {s t u : State} (h : RerunsOnly s t) (k : RerunsOnly t u) : RerunsOnly s u := by
  refine ⟨?_, fun hr => k.2 (h.2 hr)⟩
  have hk := k.1
  rw [h.1] at hk
  exact hk

theorem rerunsOnly_requestPass {s : State} (h : s.engine.pass ≠ .idle) : RerunsOnly s s.requestPass := by
  rw [requestPass_flying h]
  exact ⟨rfl, fun _ => rfl⟩

theorem rerunsOnly_foldl {F : State → Slot → State} (hF : ∀ s i, s.engine.pass ≠ .idle → RerunsOnly s (F s i)) (is : List Slot) {s : State}
    (h : s.engine.pass ≠ .idle) : RerunsOnly s (is.foldl F s) := by
  induction is generalizing s with
  | nil => exact rerunsOnly_refl rfl
  | cons i is ih =>
    have hi := hF s i h
    exact hi.trans (ih (by rw [hi.pass]; exact h))

theorem foldSlots_source {F : State → Slot → State} {k : SourceNo} (hF : ∀ s i, (F s i).source k = s.source k) (is : List Slot) (s : State) :
    (is.foldl F s).source k = s.source k := by
  induction is generalizing s with
  | nil => rfl
  | cons i is ih => rw [List.foldl_cons, ih, hF]

theorem foldSlots_bank {F : State → Slot → State} {b : BankNo} (hF : ∀ s i, (F s i).bank b = s.bank b) (is : List Slot) (s : State) :
    (is.foldl F s).bank b = s.bank b := by
  induction is generalizing s with
  | nil => rfl
  | cons i is ih => rw [List.foldl_cons, ih, hF]

theorem foldSlots_engine {F : State → Slot → State} (hF : ∀ s i, (F s i).engine = s.engine) (is : List Slot) (s : State) :
    (is.foldl F s).engine = s.engine := by
  induction is generalizing s with
  | nil => rfl
  | cons i is ih => rw [List.foldl_cons, ih, hF]

/-! ## The grants written (R38) -/

theorem getD_grants (n : Snapshot) (i : Slot) : (slots.map n.grant).getD i.val 0 = n.grant i := by
  rw [slots_eq]
  simp

/-- One grant written. -/
def State.writeGrant (grants : List Nat) (s : State) (i : Slot) : State :=
  s.setRecord i { s.record i with grant := if (s.record i).live then grants.getD i.val 0 else 0 }

theorem writeGrants_eq (s : State) (grants : List Nat) : s.writeGrants grants = slots.foldl (State.writeGrant grants) s := rfl

theorem writeGrants_rest (s : State) (grants : List Nat) :
    s.writeGrants grants = { s with table := (s.writeGrants grants).table } := by
  rw [writeGrants_eq]
  generalize slots = is
  induction is generalizing s with
  | nil => rfl
  | cons i is ih => exact (ih (s.writeGrant grants i)).trans rfl

theorem writeGrants_record (s : State) (n : Snapshot) (i : Slot) :
    (s.writeGrants (slots.map n.grant)).record i
      = { s.record i with grant := if (s.record i).state = .free then 0 else n.grant i } := by
  have h := foldSlots_record (F := State.writeGrant (slots.map n.grant))
    (fun i _ _ r => { r with grant := if r.live then (slots.map n.grant).getD i.val 0 else 0 })
    (fun s i j => record_setRecord s i j _) (fun _ _ => rfl) slots (by decide) s i
  rw [if_pos (mem_slots i), getD_grants] at h
  refine h.trans ?_
  by_cases hf : (s.record i).state = .free <;> simp [hf, live_iff]

/-! ## Drops (R20) -/

/-- R20: a record shed. -/
def DrawRecord.shed (r : DrawRecord) : DrawRecord := { r with state := .shed, present := 0, engageTimer := none, aim := r.target }

theorem slotOp_shedRecord (i : Slot) : SlotOp i fun s => s.shedRecord i :=
  ((slotOp_zeroShares i).comp (slotOp_setRecord (fun _ r => r.shed) (fun _ _ => rfl) fun s t h => by rw [h.record])).comp
    (slotOp_of_same (F := fun s => s.occurMember srcDrop i.val) (fun _ _ => rfl) (fun _ _ => rfl) fun _ => rfl)

theorem shedRecord_record (s : State) (i j : Slot) : (s.shedRecord i).record j = if i = j then (s.record i).shed else s.record j := by
  have hrec : ∀ k, (s.zeroShares i).record k = s.record k := fun k => by rw [zeroShares_eq]; rfl
  refine (record_setRecord (s.zeroShares i) i j _).trans ?_
  rw [hrec, hrec]
  rfl

theorem shedRecord_engine (s : State) (i : Slot) : (s.shedRecord i).engine = s.engine := by
  refine (rfl : _ = (s.zeroShares i).engine).trans ?_
  rw [zeroShares_eq]

theorem shedRecord_bank (s : State) (i : Slot) (b : BankNo) : (s.shedRecord i).bank b = s.bank b := by
  refine (rfl : _ = (s.zeroShares i).bank b).trans ?_
  rw [zeroShares_eq]; rfl

theorem zeroShares_source (s : State) (i : Slot) (k : SourceNo) : (s.zeroShares i).source k = s.source k := by
  rw [zeroShares_eq]; rfl

theorem shedRecord_raises (s : State) (i : Slot) : Raises s (s.shedRecord i) srcDrop fun m => i.val = m := by
  have h := raises_occurMember ((s.zeroShares i).setRecord i (((s.zeroShares i).record i).shed)) srcDrop i.val
  simp only [Raises, setRecord_source, zeroShares_source] at h
  exact Raises.congr (s := s) h fun m => eq_comm

theorem shedRecord_source (s : State) (i : Slot) {k : SourceNo} (h : k ≠ srcDrop) : (s.shedRecord i).source k = s.source k := by
  refine (occurMember_source _ srcDrop k i.val).trans ?_
  rw [if_neg (Ne.symm h), setRecord_source, zeroShares_source]

/-- The drops of a publication that take effect (R20). -/
abbrev State.effective (s : State) (dropped : List Slot) : List Slot := dropped.filter s.dropEffective

/-- R20: the drops and the one capture of the first of them. -/
theorem applyDrops_eq (s : State) (dropped : List Slot) :
    s.applyDrops dropped = match s.effective dropped with
      | i :: _ => ((s.effective dropped).foldl State.shedRecord s).capture .dropout i.val
      | [] => s := by
  unfold State.applyDrops
  cases h : s.effective dropped with
  | nil => simp only [h, List.foldl_nil]
  | cons i is => simp only [h]

/-- R20: the state after the drops, but for the capture, which touches a bank and FAULT alone. -/
theorem applyDrops_capture (s : State) (dropped : List Slot) :
    s.applyDrops dropped = (s.effective dropped).foldl State.shedRecord s
    ∨ ∃ k, s.applyDrops dropped = ((s.effective dropped).foldl State.shedRecord s).capture .dropout k := by
  rw [applyDrops_eq]
  split
  next i _ _ => exact .inr ⟨i.val, rfl⟩
  next h => rw [h]; exact .inl rfl

theorem restKept_shedRecord (s : State) (i : Slot) : RestKept s (s.shedRecord i) := (slotOp_shedRecord i).rest s

theorem restKept_applyDrops (s : State) (dropped : List Slot) : RestKept s (s.applyDrops dropped) := by
  have h := restKept_foldl restKept_shedRecord (s.effective dropped) s
  rcases applyDrops_capture s dropped with e | ⟨k, e⟩
  · rw [e]; exact h
  · rw [e]; exact h.trans (restKept_captureAs _ _ _ _)

theorem applyDrops_record (s : State) {dropped : List Slot} (hn : dropped.Nodup) (i : Slot) :
    (s.applyDrops dropped).record i = if i ∈ s.effective dropped then (s.record i).shed else s.record i := by
  have h := foldSlots_record (F := State.shedRecord) (fun _ _ _ r => r.shed) shedRecord_record restKept_shedRecord
    (s.effective dropped) (hn.filter _) s i
  rcases applyDrops_capture s dropped with e | ⟨k, e⟩
  · rw [e, h]
  · rw [e, State.capture, captureAs_record, h]

theorem applyDrops_engine (s : State) (dropped : List Slot) : (s.applyDrops dropped).engine = s.engine := by
  have h := foldSlots_engine shedRecord_engine (s.effective dropped) s
  rcases applyDrops_capture s dropped with e | ⟨k, e⟩
  · rw [e, h]
  · rw [e, State.capture, captureAs_engine, h]

theorem applyDrops_channel (s : State) (dropped : List Slot) (c : Chan) :
    (s.applyDrops dropped).channel c = ((s.effective dropped).foldl State.shedRecord s).channel c := by
  rcases applyDrops_capture s dropped with e | ⟨k, e⟩
  · rw [e]
  · rw [e, State.capture, captureAs_channel]

theorem applyDrops_source (s : State) (dropped : List Slot) {k : SourceNo} (hd : k ≠ srcDrop) (hf : k ≠ srcFault) :
    (s.applyDrops dropped).source k = s.source k := by
  have h := foldSlots_source (fun s i => shedRecord_source s i hd) (s.effective dropped) s
  rcases applyDrops_capture s dropped with e | ⟨n, e⟩
  · rw [e, h]
  · rw [e, State.capture, captureAs_source_ne _ _ _ _ hf, h]

theorem applyDrops_raises_drop (s : State) (dropped : List Slot) :
    Raises s (s.applyDrops dropped) srcDrop fun m => ∃ i ∈ s.effective dropped, i.val = m := by
  have h : ∀ (is : List Slot) (s : State), Raises s (is.foldl State.shedRecord s) srcDrop fun m => ∃ i ∈ is, i.val = m := by
    intro is
    induction is with
    | nil => exact fun s => (raises_of_eq rfl).congr fun m => by simp
    | cons i is ih =>
      intro s
      refine ((shedRecord_raises s i).trans (ih (s.shedRecord i))).congr fun m => ?_
      simp
  rcases applyDrops_capture s dropped with e | ⟨n, e⟩
  · rw [e]; exact h _ s
  · rw [e]
    exact ((h _ s).trans (raises_of_eq (captureAs_source_ne _ _ _ _ (by decide)))).congr fun m => by simp

theorem applyDrops_bank (s : State) (dropped : List Slot) (b : BankNo) :
    (s.applyDrops dropped).bank b = match s.effective dropped with
      | i :: _ => if (0 : BankNo) = b then (s.bank b).take .dropout i.val s.seq.state else s.bank b
      | [] => s.bank b := by
  have h := foldSlots_bank (fun s i => shedRecord_bank s i b) (s.effective dropped) s
  have hseq := (restKept_foldl restKept_shedRecord (s.effective dropped) s).seq
  rw [applyDrops_eq]
  split
  · rw [capture_bank, h, hseq]; rfl
  · rfl

theorem applyDrops_raises_fault (s : State) (dropped : List Slot) :
    Raises s (s.applyDrops dropped) srcFault fun m => m = 0 ∧ (s.applyDrops dropped).bank 0 ≠ s.bank 0 := by
  have hsrc := foldSlots_source (k := srcFault) (fun s i => shedRecord_source s i (by decide)) (s.effective dropped) s
  have hbank := foldSlots_bank (fun s i => shedRecord_bank s i 0) (s.effective dropped) s
  rcases applyDrops_capture s dropped with e | ⟨n, e⟩
  · rw [e, hbank]
    exact (raises_of_eq hsrc).congr fun m => by simp
  · have h := raises_captureAs ((s.effective dropped).foldl State.shedRecord s) .dropout n
      ((s.effective dropped).foldl State.shedRecord s).seq.state
    rw [e]
    refine ((raises_of_eq hsrc).trans h).congr fun m => ?_
    simp only [false_or, FaultName.bank, hbank, State.capture]
    rfl

/-! ## Admissions (R18) -/

/-- R18: a record admitted, where it is still PENDING or SHED. -/
def DrawRecord.engageFor (r : DrawRecord) (t : Timing) : DrawRecord :=
  if r.state = .pending ∨ r.state = .shed then { r with state := .engaging, present := 0, engageTimer := some t.engageTime } else r

theorem engageRecord_eq (s : State) (i : Slot) : s.engageRecord i = s.setRecord i ((s.record i).engageFor s.timing) := by
  unfold State.engageRecord DrawRecord.engageFor
  dsimp only
  split
  · rfl
  · rw [setRecord_record]

theorem engage_fold (is : List Slot) (s : State) :
    is.foldl State.engageRecord s = { s with table := (is.foldl State.engageRecord s).table } := by
  induction is generalizing s with
  | nil => rfl
  | cons i is ih =>
    have h := ih (s.engageRecord i)
    rw [List.foldl_cons]
    rw [engageRecord_eq] at h ⊢
    exact h.trans rfl

theorem engage_fold_record (s : State) {is : List Slot} (hn : is.Nodup) (i : Slot) :
    (is.foldl State.engageRecord s).record i = if i ∈ is then (s.record i).engageFor s.timing else s.record i :=
  foldSlots_record (fun _ _ tm r => r.engageFor tm) (fun s i j => by rw [engageRecord_eq]; exact record_setRecord s i j _)
    (fun s i => by rw [engageRecord_eq]; rfl) is hn s i

/-! ## Cuts (R58 to R60) -/

theorem movePresent_raises (s : State) (i : Slot) (p : Nat) :
    Raises s (s.movePresent i p) srcArrival fun m => i.val = m ∧ (s.record i).state = .active ∧ p = (s.record i).target
      ∧ (s.record i).present ≠ (s.record i).target := by
  obtain ⟨t, ht⟩ : ∃ t, t = (s.setRecord i { s.record i with present := p }).reSplit i := ⟨_, rfl⟩
  have hmove : s.movePresent i p = t.noteArrival i (s.record i).present := by rw [ht]; rfl
  have hrec : t.record i = { s.record i with present := p } := by rw [ht, reSplit_record, record_setRecord_self]
  have hsrc : t.source srcArrival = s.source srcArrival := by rw [ht, reSplit_eq]; rfl
  rw [hmove, State.noteArrival, hrec]
  dsimp only
  split
  next h =>
    refine ((raises_of_eq hsrc).trans (raises_occurMember t srcArrival i.val)).congr fun m => ?_
    simp only [false_or, h, ne_eq, not_false_eq_true, and_self, and_true]
    exact eq_comm
  next h =>
    refine (raises_of_eq hsrc).congr fun m => ?_
    simp only [false_iff, not_and]
    exact fun _ h1 h2 h3 => h ⟨h1, h2, h3⟩

theorem movePresent_source (s : State) (i : Slot) (p : Nat) {k : SourceNo} (h : k ≠ srcArrival) :
    (s.movePresent i p).source k = s.source k := by
  have hsame : ((s.setRecord i { s.record i with present := p }).reSplit i).source k = s.source k := by rw [reSplit_eq]; rfl
  unfold State.movePresent State.noteArrival
  dsimp only
  split
  · rw [occurMember_source, if_neg (Ne.symm h), hsame]
  · exact hsame

theorem movePresent_engine (s : State) (i : Slot) (p : Nat) : (s.movePresent i p).engine = s.engine := by rw [movePresent_eq]; rfl
theorem movePresent_bank (s : State) (i : Slot) (p : Nat) (b : BankNo) : (s.movePresent i p).bank b = s.bank b := by
  rw [movePresent_eq]; rfl

theorem lowerFrozen_source (s : State) (n : Nat) (fs : List Feeder) (k : SourceNo) : (s.lowerFrozen n fs).source k = s.source k := by
  rw [lowerFrozen_eq]; rfl
theorem lowerFrozen_engine (s : State) (n : Nat) (fs : List Feeder) : (s.lowerFrozen n fs).engine = s.engine := by rw [lowerFrozen_eq]
theorem lowerFrozen_bank (s : State) (n : Nat) (fs : List Feeder) (b : BankNo) : (s.lowerFrozen n fs).bank b = s.bank b := by
  rw [lowerFrozen_eq]; rfl

theorem requestIf_record (s : State) (b : Bool) (i : Slot) : (s.requestIf b).record i = s.record i := by rw [requestIf_eq]; rfl
theorem requestIf_channel (s : State) (b : Bool) (c : Chan) : (s.requestIf b).channel c = s.channel c := by rw [requestIf_eq]; rfl
theorem requestIf_source (s : State) (b : Bool) (k : SourceNo) : (s.requestIf b).source k = s.source k := by rw [requestIf_eq]; rfl
theorem requestIf_bank (s : State) (b : Bool) (k : BankNo) : (s.requestIf b).bank k = s.bank k := by rw [requestIf_eq]; rfl

/-- R58: whether a present is above its grant and has to be cut. -/
abbrev State.cutsAt (s : State) (i : Slot) : Prop := (s.record i).state = .active ∧ (s.record i).grant < (s.record i).present

/-- R60: whether a publication brings a RELEASING present to 0. -/
abbrev State.leavesAt (s : State) (i : Slot) : Prop :=
  (s.seq.state = .riding ∨ s.seq.state = .blind) ∧ (s.record i).state = .releasing ∧ 0 < (s.record i).present

/-- R58, R59: the cut of a present with its frozen shares lowered first, before the pass request. -/
def State.cutPresent (s : State) (i : Slot) : State :=
  (s.lowerFrozen (s.frozenSum i - (s.record i).grant) (s.record i).feeders.reverse).movePresent i (s.record i).grant

theorem cutToGrant_cut {s : State} {i : Slot} (h : s.cutsAt i) :
    s.cutToGrant i = (s.cutPresent i).requestIf (decide (0 < s.frozenSum i - (s.record i).grant)) := if_pos h

theorem cutToGrant_keep {s : State} {i : Slot} (h : ¬s.cutsAt i) : s.cutToGrant i = s := if_neg h

theorem releaseCut_leave {s : State} {i : Slot} (h : s.leavesAt i) : s.releaseCut i = (s.endDescent i).requestPass := if_pos h

theorem releaseCut_keep {s : State} {i : Slot} (h : ¬s.leavesAt i) : s.releaseCut i = s := if_neg h

theorem slotOp_cutPresent (i : Slot) : SlotOp i fun s => s.cutPresent i := by
  have h := (slotOp_lowerFrozen i).comp (slotOp_movePresent (i := i) (fun s => (s.record i).grant) fun s t h => by rw [h.record])
  simp only [lowerFrozen_record] at h
  exact h

theorem slotOp_cutToGrant (i : Slot) : SlotOp i fun s => s.cutToGrant i := by
  have hcut : SlotOp i fun s => (s.cutPresent i).requestIf (decide (0 < s.frozenSum i - (s.record i).grant)) := by
    have h := slotOp_cutPresent i
    exact
      { record_ne := fun s j hj => (requestIf_record _ _ j).trans (h.record_ne s j hj)
        channel_other := fun s c hc => (requestIf_channel _ _ c).trans (h.channel_other s c hc)
        feeders := fun s => by rw [requestIf_record]; exact h.feeders s
        rest := fun s => (h.rest s).trans (restKept_requestIf _ _)
        congr := fun s t hst => by
          have hc := h.congr s t hst
          refine ⟨by rw [requestIf_record, requestIf_record, hc.record], fun f hf => ?_, ?_, ?_⟩
          · rw [requestIf_record] at hf
            rw [requestIf_channel, requestIf_channel, hc.channels f hf]
          · rw [(restKept_requestIf _ _).seq, (restKept_requestIf _ _).seq, hc.seq]
          · rw [(restKept_requestIf _ _).timing, (restKept_requestIf _ _).timing, hc.timing] }
  exact SlotOp.ite (fun s => s.cutsAt i) (fun s t h => by rw [State.cutsAt, State.cutsAt, h.record]) hcut (slotOp_id i)

theorem slotOp_releaseCut (i : Slot) : SlotOp i fun s => s.releaseCut i :=
  SlotOp.ite (fun s => s.leavesAt i) (fun s t h => by rw [State.leavesAt, State.leavesAt, h.record, h.seq])
    ((slotOp_endDescent i).comp (slotOp_requestPass i)) (slotOp_id i)

/-- The cuts of a publication at one slot. -/
def State.cutAt (s : State) (i : Slot) : State := (s.cutToGrant i).releaseCut i

theorem applyCuts_eq (s : State) : s.applyCuts = slots.foldl State.cutAt s := rfl

theorem slotOp_cutAt (i : Slot) : SlotOp i fun s => s.cutAt i := (slotOp_cutToGrant i).comp (slotOp_releaseCut i)

theorem restKept_cutAt (s : State) (i : Slot) : RestKept s (s.cutAt i) := (slotOp_cutAt i).rest s

theorem cutPresent_record (s : State) (i j : Slot) :
    (s.cutPresent i).record j = if i = j then { s.record i with present := (s.record i).grant } else s.record j := by
  rw [State.cutPresent, movePresent_record, lowerFrozen_record, lowerFrozen_record]

theorem endDescent_record (s : State) (i j : Slot) :
    (s.endDescent i).record j
      = if i = j then { s.record i with present := 0, releaseTimer := some s.timing.releaseTime } else s.record j := by
  rw [endDescent_eq]
  exact record_setRecord s i j _

/-- Of the two cuts of a slot at most one acts: the first at an ACTIVE record, the second at a RELEASING one. -/
theorem cutAt_cases (s : State) (i : Slot) :
    (s.cutsAt i ∧ ¬s.leavesAt i ∧ s.cutAt i = (s.cutPresent i).requestIf (decide (0 < s.frozenSum i - (s.record i).grant)))
    ∨ (¬s.cutsAt i ∧ s.leavesAt i ∧ s.cutAt i = (s.endDescent i).requestPass) ∨ (¬s.cutsAt i ∧ ¬s.leavesAt i ∧ s.cutAt i = s) := by
  by_cases hcut : s.cutsAt i
  · have hrec : (s.cutToGrant i).record i = { s.record i with present := (s.record i).grant } := by
      rw [cutToGrant_cut hcut, requestIf_record, cutPresent_record, if_pos rfl]
    have hleave : ¬s.leavesAt i := fun h => by have := hcut.1.symm.trans h.2.1; cases this
    have hleave' : ¬(s.cutToGrant i).leavesAt i := fun h => by
      have h1 := h.2.1
      rw [hrec] at h1
      have := hcut.1.symm.trans h1
      cases this
    exact .inl ⟨hcut, hleave, by rw [State.cutAt, releaseCut_keep hleave', cutToGrant_cut hcut]⟩
  · rw [State.cutAt, cutToGrant_keep hcut]
    by_cases hleave : s.leavesAt i
    · exact .inr (.inl ⟨hcut, hleave, releaseCut_leave hleave⟩)
    · exact .inr (.inr ⟨hcut, hleave, releaseCut_keep hleave⟩)

/-- R58, R60: what the cuts make of a record. -/
def DrawRecord.cut (r : DrawRecord) (st : SeqState) (t : Timing) : DrawRecord :=
  if r.state = .active then { r with present := min r.present r.grant }
  else if r.state = .releasing ∧ 0 < r.present ∧ (st = .riding ∨ st = .blind) then
    { r with present := 0, releaseTimer := some t.releaseTime }
  else r

theorem cutAt_record (s : State) (i j : Slot) :
    (s.cutAt i).record j = if i = j then (s.record i).cut s.seq.state s.timing else s.record j := by
  rcases cutAt_cases s i with ⟨hc, -, e⟩ | ⟨hc, hl, e⟩ | ⟨hc, hl, e⟩
  · rw [e, requestIf_record, cutPresent_record, DrawRecord.cut, if_pos hc.1, Nat.min_eq_right hc.2.le]
  · have hst : (s.record i).state ≠ .active := fun h => by have := h.symm.trans hl.2.1; cases this
    have hcut : (s.record i).cut s.seq.state s.timing
        = { s.record i with present := 0, releaseTimer := some s.timing.releaseTime } := by
      rw [DrawRecord.cut, if_neg hst, if_pos ⟨hl.2.1, hl.2.2, hl.1⟩]
    rw [e, requestPass_record, endDescent_record, hcut]
  · have hsame : (s.record i).cut s.seq.state s.timing = s.record i := by
      unfold DrawRecord.cut
      split
      next h =>
        have hle : (s.record i).present ≤ (s.record i).grant := Nat.le_of_not_lt fun hlt => hc ⟨h, hlt⟩
        rw [Nat.min_eq_left hle]
      · exact if_neg fun h => hl ⟨h.2.2, h.1, h.2.1⟩
    rw [e, hsame]
    split
    next h => rw [h]
    · rfl

theorem applyCuts_record (s : State) (i : Slot) : s.applyCuts.record i = (s.record i).cut s.seq.state s.timing := by
  have h := foldSlots_record (F := State.cutAt) (fun _ q tm r => r.cut q.state tm) cutAt_record restKept_cutAt slots (by decide) s i
  rwa [if_pos (mem_slots i)] at h

theorem restKept_applyCuts (s : State) : RestKept s s.applyCuts := restKept_foldl restKept_cutAt slots s

theorem cutPresent_engine (s : State) (i : Slot) : (s.cutPresent i).engine = s.engine := by
  rw [State.cutPresent, movePresent_engine, lowerFrozen_engine]

theorem endDescent_engine (s : State) (i : Slot) : (s.endDescent i).engine = s.engine := by rw [endDescent_eq]; rfl

theorem requestIf_rerunsOnly {s t : State} (b : Bool) (he : t.engine = s.engine) (h : s.engine.pass ≠ .idle) : RerunsOnly s (t.requestIf b) := by
  cases b
  · exact rerunsOnly_refl he
  · exact (rerunsOnly_refl he).trans (rerunsOnly_requestPass (by rw [he]; exact h))

theorem cutAt_rerunsOnly (s : State) (i : Slot) (h : s.engine.pass ≠ .idle) : RerunsOnly s (s.cutAt i) := by
  rcases cutAt_cases s i with ⟨-, -, e⟩ | ⟨-, -, e⟩ | ⟨-, -, e⟩
  · rw [e]; exact requestIf_rerunsOnly _ (cutPresent_engine s i) h
  · rw [e]; exact requestIf_rerunsOnly true (endDescent_engine s i) h
  · rw [e]; exact rerunsOnly_refl rfl

theorem applyCuts_rerunsOnly {s : State} (h : s.engine.pass ≠ .idle) : RerunsOnly s s.applyCuts := by
  rw [applyCuts_eq]
  exact rerunsOnly_foldl cutAt_rerunsOnly _ h

theorem endDescent_source (s : State) (i : Slot) (k : SourceNo) : (s.endDescent i).source k = s.source k := by rw [endDescent_eq]; rfl
theorem endDescent_bank (s : State) (i : Slot) (b : BankNo) : (s.endDescent i).bank b = s.bank b := by rw [endDescent_eq]; rfl

theorem cutAt_source (s : State) (i : Slot) {k : SourceNo} (h : k ≠ srcArrival) : (s.cutAt i).source k = s.source k := by
  rcases cutAt_cases s i with ⟨-, -, e⟩ | ⟨-, -, e⟩ | ⟨-, -, e⟩
  · rw [e, requestIf_source, State.cutPresent, movePresent_source _ _ _ h, lowerFrozen_source]
  · rw [e, requestPass_source, endDescent_source]
  · rw [e]

theorem cutAt_bank (s : State) (i : Slot) (b : BankNo) : (s.cutAt i).bank b = s.bank b := by
  rcases cutAt_cases s i with ⟨-, -, e⟩ | ⟨-, -, e⟩ | ⟨-, -, e⟩
  · rw [e, requestIf_bank, State.cutPresent, movePresent_bank, lowerFrozen_bank]
  · rw [e, requestPass_bank, endDescent_bank]
  · rw [e]

theorem cutAt_raises (s : State) (i : Slot) :
    Raises s (s.cutAt i) srcArrival fun m => i.val = m ∧ s.cutsAt i ∧ (s.record i).grant = (s.record i).target := by
  rcases cutAt_cases s i with ⟨hc, -, e⟩ | ⟨hc, -, e⟩ | ⟨hc, -, e⟩
  · have h := movePresent_raises (s.lowerFrozen (s.frozenSum i - (s.record i).grant) (s.record i).feeders.reverse) i (s.record i).grant
    rw [e]
    refine (((raises_of_eq (lowerFrozen_source s _ _ _)).trans h).trans (raises_of_eq (requestIf_source _ _ _))).congr fun m => ?_
    simp only [lowerFrozen_record, false_or, or_false]
    exact ⟨fun h => ⟨h.1, hc, h.2.2.1⟩, fun h => ⟨h.1, hc.1, h.2.2, fun e => by have := hc.2; omega⟩⟩
  · rw [e]
    exact (raises_of_eq (by rw [requestPass_source, endDescent_source])).congr fun m => by simp [hc]
  · rw [e]
    exact (raises_of_eq rfl).congr fun m => by simp [hc]

theorem rerun_requestPass {s : State} (h : s.engine.pass ≠ .idle) : s.requestPass.engine.rerun = true := by
  rw [requestPass_flying h]; rfl

/-- R59, R60: where the cuts at a slot ask for a pass. -/
theorem cutAt_rerun {s : State} (h : s.engine.pass ≠ .idle) (i : Slot) :
    (s.cutAt i).engine.rerun = true
      ↔ s.engine.rerun = true ∨ ((s.cutsAt i ∧ (s.record i).grant < s.frozenSum i) ∨ s.leavesAt i) := by
  rcases cutAt_cases s i with ⟨hc, hl, e⟩ | ⟨hc, hl, e⟩ | ⟨hc, hl, e⟩
  · rw [e]
    by_cases hf : (s.record i).grant < s.frozenSum i
    · have hb : decide (0 < s.frozenSum i - (s.record i).grant) = true := decide_eq_true (by omega)
      rw [hb]
      exact iff_of_true (rerun_requestPass (by rw [cutPresent_engine]; exact h)) (.inr (.inl ⟨hc, hf⟩))
    · have hb : decide (0 < s.frozenSum i - (s.record i).grant) = false := decide_eq_false (by omega)
      rw [hb]
      simp [State.requestIf, cutPresent_engine, hf, hl]
  · rw [e]
    exact iff_of_true (rerun_requestPass (by rw [endDescent_engine]; exact h)) (.inr (.inr hl))
  · rw [e]
    simp [hc, hl]

end Sys2Proof.Machine

/-!
A whole publication (R38 to R43, R58 to R60): records, channels, numbers, the breach indication and what it raises.
-/

namespace Sys2Proof.Machine

/-! ## The stages of a publication -/

/-- The state with the grants and the numbers written and the window open. -/
def State.granted (s : State) (n : Snapshot) : State :=
  let t := (s.writeGrants (slots.map n.grant)).writeNumbers n
  t.setEngine { t.engine with pass := .window s.port.waiting.isSome }

/-- The state with the drops and the admissions made. -/
def State.admitted (s : State) (n : Snapshot) : State :=
  n.admitted.foldl State.engageRecord ((s.granted n).applyDrops n.dropped)

theorem publish_eq (s : State) (n : Snapshot) : s.publish n = (s.admitted n).applyCuts.writeBreach n := rfl

/-- R38, R42: what the first stage writes: the grants and the Engine's numbers. -/
theorem granted_spec (s : State) (n : Snapshot) : ∃ table : Vector DrawRecord 24,
    (∀ i, table.get i = { s.record i with grant := if (s.record i).state = .free then 0 else n.grant i })
    ∧ s.granted n = { s with
      table := table
      engine := { s.engine with
        publishedCap := n.cap, pubNumber := (s.engine.pubNumber + 1) % 256, pass := .window s.port.waiting.isSome } } := by
  refine ⟨_, fun i => writeGrants_record s n i, ?_⟩
  have h := writeGrants_rest s (slots.map n.grant)
  unfold State.granted State.writeNumbers
  revert h
  generalize s.writeGrants (slots.map n.grant) = w
  intro h
  obtain ⟨table, rfl⟩ : ∃ table, w = { s with table := table } := ⟨_, h⟩
  rfl

theorem granted_record (s : State) (n : Snapshot) (i : Slot) :
    (s.granted n).record i = { s.record i with grant := if (s.record i).state = .free then 0 else n.grant i } := by
  obtain ⟨table, htable, h⟩ := granted_spec s n
  rw [h]
  exact htable i

theorem granted_channel (s : State) (n : Snapshot) (c : Chan) : (s.granted n).channel c = s.channel c := by
  obtain ⟨table, -, h⟩ := granted_spec s n
  rw [h]; rfl
theorem granted_source (s : State) (n : Snapshot) (k : SourceNo) : (s.granted n).source k = s.source k := by
  obtain ⟨table, -, h⟩ := granted_spec s n
  rw [h]; rfl
theorem granted_bank (s : State) (n : Snapshot) (b : BankNo) : (s.granted n).bank b = s.bank b := by
  obtain ⟨table, -, h⟩ := granted_spec s n
  rw [h]; rfl
theorem granted_engine (s : State) (n : Snapshot) : (s.granted n).engine = { s.engine with
    publishedCap := n.cap, pubNumber := (s.engine.pubNumber + 1) % 256, pass := .window s.port.waiting.isSome } := by
  obtain ⟨table, -, h⟩ := granted_spec s n
  rw [h]
theorem restKept_granted (s : State) (n : Snapshot) : RestKept s (s.granted n) := by
  obtain ⟨table, -, h⟩ := granted_spec s n
  rw [h]

/-- R20: whether a publication drops the record at a slot. -/
abbrev State.drops (s : State) (n : Snapshot) (i : Slot) : Prop :=
  i ∈ n.dropped ∧ ((s.record i).state = .engaging ∨ (s.record i).state = .active)

theorem mem_effective (s : State) (n : Snapshot) (i : Slot) : i ∈ (s.granted n).effective n.dropped ↔ s.drops n i := by
  simp [State.effective, State.dropEffective, granted_record]

theorem effective_eq (s : State) (n : Snapshot) (gone : Slot → Bool) (h : ∀ i, gone i = decide (s.drops n i)) :
    (s.granted n).effective n.dropped = n.dropped.filter gone := by
  refine List.filter_congr fun i hi => ?_
  rw [h, Bool.eq_iff_iff]
  simp [State.dropEffective, granted_record, hi]

theorem effective_nodup (s : State) (n : Snapshot) : ((s.granted n).effective n.dropped).Nodup := (dropped_nodup n).filter _

theorem not_admitted_of_dropped {n : Snapshot} {i : Slot} (h : i ∈ n.dropped) : i ∉ n.admitted := fun ha => by
  have hd := ((mem_dropOrder n i).mp (mem_dropOrder_of_dropped h)).1
  rcases mem_admitted_state ha with hs | hs <;> simp [hs] at hd

theorem admitted_rest (s : State) (n : Snapshot) : s.admitted n
    = { (s.granted n).applyDrops n.dropped with table := (s.admitted n).table } := engage_fold _ _

theorem restKept_admitted (s : State) (n : Snapshot) : RestKept s (s.admitted n) := by
  rw [admitted_rest]
  exact (restKept_granted s n).trans (restKept_applyDrops _ _)

theorem admitted_engine (s : State) (n : Snapshot) : (s.admitted n).engine = (s.granted n).engine := by
  rw [admitted_rest]
  exact applyDrops_engine _ _

theorem admitted_source (s : State) (n : Snapshot) (k : SourceNo) :
    (s.admitted n).source k = ((s.granted n).applyDrops n.dropped).source k := by
  rw [admitted_rest]; rfl

theorem admitted_bank (s : State) (n : Snapshot) (b : BankNo) :
    (s.admitted n).bank b = ((s.granted n).applyDrops n.dropped).bank b := by
  rw [admitted_rest]; rfl

theorem admitted_channel (s : State) (n : Snapshot) (c : Chan) :
    (s.admitted n).channel c = (((s.granted n).effective n.dropped).foldl State.shedRecord (s.granted n)).channel c := by
  rw [admitted_rest, ← applyDrops_channel]
  rfl

/-- R18, R20, R38: a record with its grant, after the drops and the admissions. -/
theorem admitted_record (s : State) (n : Snapshot) (i : Slot) :
    (s.admitted n).record i
      = if s.drops n i then ((s.granted n).record i).shed
        else if i ∈ n.admitted then ((s.granted n).record i).engageFor s.timing else (s.granted n).record i := by
  have htiming : ((s.granted n).applyDrops n.dropped).timing = s.timing :=
    ((restKept_granted s n).trans (restKept_applyDrops _ _)).timing
  rw [State.admitted, engage_fold_record _ (admitted_nodup n), applyDrops_record _ (dropped_nodup n), htiming]
  simp only [mem_effective]
  by_cases hd : s.drops n i
  · rw [if_pos hd, if_pos hd, if_neg (not_admitted_of_dropped hd.1)]
  · rw [if_neg hd, if_neg hd]

theorem admitted_pass (s : State) (n : Snapshot) : (s.admitted n).engine.pass ≠ .idle := by
  rw [admitted_engine, granted_engine]
  exact Pass.noConfusion

/-! ## The breach indication (R31, R40, R43) -/

theorem writeBreach_cases (s : State) (n : Snapshot) :
    (n.breach = true ∧ s.engine.breach = false
      ∧ s.writeBreach n = (s.setEngine { s.engine with breach := n.breach }).capture .capBreach n.breachIndex)
    ∨ (¬(n.breach = true ∧ s.engine.breach = false) ∧ s.writeBreach n = s.setEngine { s.engine with breach := n.breach }) := by
  unfold State.writeBreach
  cases hb : n.breach <;> cases he : s.engine.breach <;> simp

theorem writeBreach_record (s : State) (n : Snapshot) (i : Slot) : (s.writeBreach n).record i = s.record i := by
  rcases writeBreach_cases s n with ⟨-, -, e⟩ | ⟨-, e⟩
  · rw [e, State.capture, captureAs_record]; rfl
  · rw [e]; rfl

theorem writeBreach_channel (s : State) (n : Snapshot) (c : Chan) : (s.writeBreach n).channel c = s.channel c := by
  rcases writeBreach_cases s n with ⟨-, -, e⟩ | ⟨-, e⟩
  · rw [e, State.capture, captureAs_channel]; rfl
  · rw [e]; rfl

theorem writeBreach_engine (s : State) (n : Snapshot) : (s.writeBreach n).engine = { s.engine with breach := n.breach } := by
  rcases writeBreach_cases s n with ⟨-, -, e⟩ | ⟨-, e⟩
  · rw [e, State.capture, captureAs_engine]; rfl
  · rw [e]; rfl

theorem writeBreach_source (s : State) (n : Snapshot) {k : SourceNo} (h : k ≠ srcFault) : (s.writeBreach n).source k = s.source k := by
  rcases writeBreach_cases s n with ⟨-, -, e⟩ | ⟨-, e⟩
  · rw [e, State.capture, captureAs_source_ne _ _ _ _ h]; rfl
  · rw [e]; rfl

theorem writeBreach_bank (s : State) (n : Snapshot) (b : BankNo) :
    (s.writeBreach n).bank b
      = if (0 : BankNo) = b ∧ n.breach = true ∧ s.engine.breach = false then (s.bank b).take .capBreach n.breachIndex s.seq.state
        else s.bank b := by
  rcases writeBreach_cases s n with ⟨hn, hs, e⟩ | ⟨h, e⟩
  · rw [e, capture_bank]
    by_cases hb : (0 : BankNo) = b
    · rw [if_pos (show FaultName.capBreach.bank = b from hb), if_pos ⟨hb, hn, hs⟩]; rfl
    · rw [if_neg (show ¬FaultName.capBreach.bank = b from hb), if_neg fun h => hb h.1]; rfl
  · rw [e, if_neg fun h' => h h'.2]; rfl

theorem writeBreach_raises (s : State) (n : Snapshot) :
    Raises s (s.writeBreach n) srcFault fun m => m = 0 ∧ (s.writeBreach n).bank 0 ≠ s.bank 0 := by
  rcases writeBreach_cases s n with ⟨-, -, e⟩ | ⟨-, e⟩
  · rw [e]
    exact raises_captureAs (s.setEngine { s.engine with breach := n.breach }) .capBreach n.breachIndex s.seq.state
  · rw [e]
    exact (raises_of_eq rfl).congr fun m => by simp only [setEngine_bank, ne_eq, not_true_eq_false, and_false]

theorem restKept_writeBreach (s : State) (n : Snapshot) : RestKept s (s.writeBreach n) := by
  rcases writeBreach_cases s n with ⟨-, -, e⟩ | ⟨-, e⟩
  · rw [e]
    exact RestKept.trans (t := s.setEngine { s.engine with breach := n.breach }) rfl (restKept_captureAs _ _ _ _)
  · rw [e]; rfl

/-! ## The whole publication -/

theorem restKept_publish (s : State) (n : Snapshot) : RestKept s (s.publish n) := by
  rw [publish_eq]
  exact ((restKept_admitted s n).trans (restKept_applyCuts _)).trans (restKept_writeBreach _ n)

/-- R18, R20, R38, R58, R60: what a publication makes of a record. -/
def DrawRecord.published (r : DrawRecord) (g : Nat) (gone admitted : Prop) [Decidable gone] [Decidable admitted] (st : SeqState) (tm : Timing) :
    DrawRecord :=
  if gone then { r with state := .shed, grant := g, present := 0, engageTimer := none, aim := r.target }
  else if admitted ∧ (r.state = .pending ∨ r.state = .shed) then
    { r with state := .engaging, grant := g, present := 0, engageTimer := some tm.engageTime }
  else if r.state = .active then { r with grant := g, present := min r.present g }
  else if r.state = .releasing ∧ 0 < r.present ∧ (st = .riding ∨ st = .blind) then
    { r with grant := g, present := 0, releaseTimer := some tm.releaseTime }
  else { r with grant := g }

theorem publish_record (s : State) (n : Snapshot) (i : Slot) :
    (s.publish n).record i = (s.record i).published (if (s.record i).state = .free then 0 else n.grant i) (s.drops n i) (i ∈ n.admitted)
      s.seq.state s.timing := by
  rw [publish_eq, writeBreach_record, applyCuts_record, (restKept_admitted s n).seq, (restKept_admitted s n).timing, admitted_record,
    granted_record]
  generalize (if (s.record i).state = .free then 0 else n.grant i) = g
  unfold DrawRecord.published
  by_cases hgone : s.drops n i
  · rw [if_pos hgone, if_pos hgone]
    simp [DrawRecord.shed, DrawRecord.cut]
  rw [if_neg hgone, if_neg hgone]
  by_cases hadm : i ∈ n.admitted ∧ ((s.record i).state = .pending ∨ (s.record i).state = .shed)
  · rw [if_pos hadm.1, if_pos hadm]
    simp [DrawRecord.engageFor, DrawRecord.cut, hadm.2]
  · rw [if_neg hadm]
    by_cases hin : i ∈ n.admitted
    · have hst : ¬((s.record i).state = .pending ∨ (s.record i).state = .shed) := fun h => hadm ⟨hin, h⟩
      rw [if_pos hin]
      simp [DrawRecord.engageFor, DrawRecord.cut, hst]
    · rw [if_neg hin]
      rfl

theorem publish_engine (s : State) (n : Snapshot) :
    (s.publish n).engine = { s.engine with
      publishedCap := n.cap, pubNumber := (s.engine.pubNumber + 1) % 256, pass := .window s.port.waiting.isSome, breach := n.breach,
      rerun := (s.publish n).engine.rerun }
    ∧ (s.engine.rerun = true → (s.publish n).engine.rerun = true) := by
  have hcuts := applyCuts_rerunsOnly (admitted_pass s n)
  rw [publish_eq, writeBreach_engine]
  revert hcuts
  generalize (s.admitted n).applyCuts = w
  intro hcuts
  obtain ⟨heng, hrerun⟩ := hcuts
  rw [admitted_engine, granted_engine] at heng hrerun
  exact ⟨by rw [heng], hrerun⟩

theorem publish_source (s : State) (n : Snapshot) {k : SourceNo} (hf : k ≠ srcFault) (hd : k ≠ srcDrop) (ha : k ≠ srcArrival) :
    (s.publish n).source k = s.source k := by
  rw [publish_eq, writeBreach_source _ n hf, applyCuts_eq, foldSlots_source (fun s i => cutAt_source s i ha), admitted_source,
    applyDrops_source _ _ hd hf, granted_source]

theorem applyCuts_bank (s : State) (b : BankNo) : s.applyCuts.bank b = s.bank b := by
  rw [applyCuts_eq, foldSlots_bank fun s i => cutAt_bank s i b]

theorem applyCuts_source (s : State) {k : SourceNo} (h : k ≠ srcArrival) : s.applyCuts.source k = s.source k := by
  rw [applyCuts_eq, foldSlots_source fun s i => cutAt_source s i h]

theorem exec_opened_running {s : State} (hup : s.up) {n : Snapshot} (h : s.engine.pass = .running n) :
    exec (.publication .opened) s = .next (s.publish n) := by
  rw [exec, execPublication, whileRunning_up hup]
  simp only [State.publishIfRunning, h]

theorem publishIfRunning_other {s : State} (h : ∀ n, s.engine.pass ≠ .running n) : s.publishIfRunning = s := by
  unfold State.publishIfRunning
  split
  next n hn => exact absurd hn (h n)
  · rfl

theorem publish_bank_ne (s : State) (n : Snapshot) {b : BankNo} (h : b ≠ 0) : (s.publish n).bank b = s.bank b := by
  rw [publish_eq, writeBreach_bank, if_neg fun h' => h h'.1.symm, applyCuts_bank, admitted_bank, applyDrops_bank, granted_bank]
  split
  · exact if_neg h.symm
  · rfl

theorem published_grant (r : DrawRecord) (g : Nat) (gone admitted : Prop) [Decidable gone] [Decidable admitted] (st : SeqState) (tm : Timing) :
    (r.published g gone admitted st tm).grant = g := by
  unfold DrawRecord.published
  repeat' split
  all_goals rfl

/-- Settles O34: the Engine's items, the grants, and what is left alone. -/
theorem publicationWritesResults : Obligations.PublicationWritesResults := by
  intro s hup
  refine ⟨fun h => ?_, fun n hn => ⟨s.publish n, exec_opened_running hup hn, fun i => ?_, ?_⟩⟩
  · rw [exec, execPublication, whileRunning_up hup]
    exact congrArg _ (publishIfRunning_other h)
  · rw [publish_record, published_grant]
  · obtain ⟨heng, hrerun⟩ := publish_engine s n
    have hwaiting : s.port.waiting.isSome = decide (s.port.waiting ≠ none) := by cases s.port.waiting <;> rfl
    refine ⟨by rw [heng], by rw [heng], by rw [heng], by rw [heng], by rw [heng, hwaiting], hrerun,
      fun m hf hd ha => publish_source s n hf hd ha, fun b hb => publish_bank_ne s n hb, restKept_publish s n⟩

/-- Settles O35: record by record, then DROP and FAULT by the stages that raise them. -/
theorem publicationMovesRecords : Obligations.PublicationMovesRecords := by
  intro s t n hup hn ht gone hgone
  obtain rfl : s.publish n = t := by
    have h := ht.symm.trans (exec_opened_running hup hn)
    exact (Host.Outcome.next.inj h).symm
  have hdrops : ∀ i, gone i = true ↔ s.drops n i := fun i => by rw [hgone]; exact decide_eq_true_iff
  have hcuts : (s.admitted n).applyCuts.bank 0 = ((s.granted n).applyDrops n.dropped).bank 0 := by rw [applyCuts_bank, admitted_bank]
  have hbreach : (s.admitted n).applyCuts.engine.breach = s.engine.breach := by
    rw [(applyCuts_rerunsOnly (admitted_pass s n)).1, admitted_engine, granted_engine]
  refine ⟨fun i r g hr hg => ?_, ?_, ?_, fun b hb => ?_⟩
  · subst hr hg
    rw [publish_record, DrawRecord.published]
    simp only [hdrops]
  · have hlast : (s.publish n).source srcDrop = ((s.granted n).applyDrops n.dropped).source srcDrop := by
      rw [publish_eq, writeBreach_source _ n (by decide), applyCuts_source _ (by decide), admitted_source]
    refine ((raises_of_eq (granted_source s n srcDrop)).trans
      ((applyDrops_raises_drop (s.granted n) n.dropped).trans (raises_of_eq hlast))).congr fun m => ?_
    · simp only [false_or, or_false, mem_effective, hdrops]
      exact exists_congr fun i => and_comm
  · have h1 := applyDrops_raises_fault (s.granted n) n.dropped
    have h2 := writeBreach_raises (s.admitted n).applyCuts n
    have hmid : (s.admitted n).applyCuts.source srcFault = ((s.granted n).applyDrops n.dropped).source srcFault := by
      rw [applyCuts_source _ (by decide), admitted_source]
    refine ((raises_of_eq (granted_source s n srcFault)).trans (h1.trans ((raises_of_eq hmid).trans h2))).congr fun m => ?_
    simp only [false_or, ← publish_eq, hcuts, granted_bank, ← and_or_left]
    refine and_congr_right fun _ => (changed_iff ?_ ?_).symm
    · rw [applyDrops_bank, granted_bank]
      split
      · exact FaultBank.weight_take _ _ _ _
      · exact .inl rfl
    · rw [publish_eq, writeBreach_bank, hcuts]
      split
      · exact FaultBank.weight_take _ _ _ _
      · exact .inl rfl
  · have hbank : ((s.granted n).applyDrops n.dropped).bank 0 = b := by
      rw [hb, applyDrops_bank, effective_eq s n gone hgone, granted_bank, (restKept_granted s n).seq]
      cases n.dropped.filter gone <;> rfl
    rw [publish_eq, writeBreach_bank, hcuts, hbank, hbreach, (restKept_applyCuts _).seq, (restKept_admitted s n).seq]
    simp only [true_and]

end Sys2Proof.Machine

/-!
What a publication does to the channels of a record: shares released, split anew, or lowered with their frozen shares (R58 to R62).
-/

namespace Sys2Proof.Machine

/-! ## Frozen shares lowered (R59) -/

theorem feederSum_cons (s : State) (f : Feeder) (fs : List Feeder) (g : Channel → Nat) :
    s.feederSum (f :: fs) g = g (s.channel f.channel) + s.feederSum fs g := by simp [State.feederSum]

theorem feederSum_congr {s t : State} {fs : List Feeder} (h : ∀ f ∈ fs, s.channel f.channel = t.channel f.channel) (g : Channel → Nat) :
    s.feederSum fs g = t.feederSum fs g := congrArg List.sum (List.map_congr_left fun f hf => by rw [h f hf])

/-- In a list that names no channel twice, the first feeder's channel is not that of a later one. -/
theorem channel_ne_of_nodup {f g : Feeder} {fs : List Feeder} (hn : ((f :: fs).map fun f => f.channel).Nodup) (hg : g ∈ fs) :
    g.channel ≠ f.channel := fun hc =>
  (List.nodup_cons.mp hn).1 (List.mem_map.mpr ⟨g, hg, hc⟩)

/-- A channel with its frozen share and its share lowered to a value. -/
def Channel.lowered (x : Channel) (kept : Nat) : Channel := { x with frozen := kept, share := kept }

theorem lowerFrozen_stale {s : State} {f : Feeder} {fs : List Feeder} (h : (s.channel f.channel).condition = .stale) (e : Nat) :
    s.lowerFrozen e (f :: fs)
      = (s.setChannel f.channel ((s.channel f.channel).lowered ((s.channel f.channel).frozen - min (s.channel f.channel).frozen e))).lowerFrozen
          (e - min (s.channel f.channel).frozen e) fs := by
  rw [State.lowerFrozen, if_pos h]
  rfl

theorem lowerFrozen_skip {s : State} {f : Feeder} {fs : List Feeder} (h : (s.channel f.channel).condition ≠ .stale) (e : Nat) :
    s.lowerFrozen e (f :: fs) = s.lowerFrozen e fs := by
  rw [State.lowerFrozen, if_neg h]

theorem frozenShare_stale {x : Channel} (h : x.condition = .stale) : x.frozenShare = x.frozen := if_pos h
theorem frozenShare_other {x : Channel} (h : x.condition ≠ .stale) : x.frozenShare = 0 := if_neg h

/-- R59: a STALE feeder gives what is left of the excess after the feeders before it in the order of lowering. -/
theorem lowerFrozen_at (s : State) (e : Nat) (before : List Feeder) (f : Feeder) (after : List Feeder)
    (hn : ((before ++ f :: after).map fun f => f.channel).Nodup) (hst : (s.channel f.channel).condition = .stale) :
    (s.lowerFrozen e (before ++ f :: after)).channel f.channel = (s.channel f.channel).lowered
      ((s.channel f.channel).frozen - min (s.channel f.channel).frozen (e - s.feederSum before Channel.frozenShare)) := by
  induction before generalizing s e with
  | nil =>
    have hother : ∀ g ∈ after, g.channel ≠ f.channel := fun g hg => channel_ne_of_nodup hn hg
    rw [List.nil_append, lowerFrozen_stale hst, lowerFrozen_other _ _ _ _ hother, channel_setChannel_self]
    rfl
  | cons p ps ih =>
    obtain ⟨-, hps⟩ := List.nodup_cons.mp hn
    have hpf : p.channel ≠ f.channel := (channel_ne_of_nodup hn (by simp)).symm
    have hsum : ∀ x, (s.setChannel p.channel x).feederSum ps Channel.frozenShare = s.feederSum ps Channel.frozenShare := fun x =>
      feederSum_congr (fun g hg => channel_setChannel_ne s x (channel_ne_of_nodup hn (by simp [hg])).symm) _
    rw [List.cons_append, feederSum_cons]
    by_cases hpst : (s.channel p.channel).condition = .stale
    · rw [lowerFrozen_stale hpst, ih _ _ hps (by rw [channel_setChannel_ne _ _ hpf]; exact hst), channel_setChannel_ne _ _ hpf, hsum,
        frozenShare_stale hpst]
      congr 3
      omega
    · rw [lowerFrozen_skip hpst, ih s e hps hst, frozenShare_other hpst, Nat.zero_add]

/-- A channel that is not STALE keeps everything while frozen shares are lowered. -/
theorem lowerFrozen_notStale (s : State) (e : Nat) (fs : List Feeder) (c : Chan) (h : (s.channel c).condition ≠ .stale) :
    (s.lowerFrozen e fs).channel c = s.channel c := by
  induction fs generalizing s e with
  | nil => rfl
  | cons f fs ih =>
    by_cases hst : (s.channel f.channel).condition = .stale
    · have hfc : f.channel ≠ c := fun hc => h (hc ▸ hst)
      rw [lowerFrozen_stale hst, ih _ _ (by rw [channel_setChannel_ne _ _ hfc]; exact h), channel_setChannel_ne _ _ hfc]
    · rw [lowerFrozen_skip hst, ih s e h]

/-- A STALE channel has only its share and its frozen share changed. -/
theorem lowerFrozen_channel (s : State) (e : Nat) (fs : List Feeder) (c : Chan) :
    (s.lowerFrozen e fs).channel c = { s.channel c with
      share := ((s.lowerFrozen e fs).channel c).share, frozen := ((s.lowerFrozen e fs).channel c).frozen } := by
  induction fs generalizing s e with
  | nil => rfl
  | cons f fs ih =>
    by_cases hst : (s.channel f.channel).condition = .stale
    · rw [lowerFrozen_stale hst]
      refine (ih _ _).trans ?_
      by_cases hfc : f.channel = c
      · subst hfc
        rw [channel_setChannel_self]
        rfl
      · rw [channel_setChannel_ne _ _ hfc]
    · rw [lowerFrozen_skip hst]
      exact ih s e

/-- R59: an excess of 0 leaves every frozen share. -/
theorem lowerFrozen_zero (s : State) (fs : List Feeder) (c : Chan) :
    (s.lowerFrozen 0 fs).channel c = { s.channel c with share := ((s.lowerFrozen 0 fs).channel c).share } := by
  induction fs generalizing s with
  | nil => rfl
  | cons f fs ih =>
    by_cases hst : (s.channel f.channel).condition = .stale
    · rw [lowerFrozen_stale hst]
      simp only [Nat.min_zero, Nat.sub_zero]
      refine (ih _).trans ?_
      by_cases hfc : f.channel = c
      · subst hfc
        rw [channel_setChannel_self]
        rfl
      · rw [channel_setChannel_ne _ _ hfc]
    · rw [lowerFrozen_skip hst]
      exact ih s

/-- R59: what lowering takes off the sum of the frozen shares. -/
theorem lowerFrozen_sum (s : State) (e : Nat) (fs : List Feeder) (hn : (fs.map fun f => f.channel).Nodup) :
    (s.lowerFrozen e fs).feederSum fs Channel.frozenShare = s.feederSum fs Channel.frozenShare - e := by
  induction fs generalizing s e with
  | nil => simp [State.feederSum]
  | cons f fs ih =>
    obtain ⟨-, hfs⟩ := List.nodup_cons.mp hn
    have hother : ∀ g ∈ fs, g.channel ≠ f.channel := fun g hg => channel_ne_of_nodup hn hg
    rw [feederSum_cons, feederSum_cons]
    by_cases hst : (s.channel f.channel).condition = .stale
    · rw [lowerFrozen_stale hst, ih _ _ hfs, lowerFrozen_other _ _ _ _ hother, channel_setChannel_self, frozenShare_stale hst,
        frozenShare_stale (by exact hst),
        feederSum_congr (t := s) fun g hg => channel_setChannel_ne s _ (hother g hg).symm]
      simp only [Channel.lowered]
      omega
    · rw [lowerFrozen_skip hst, ih _ _ hfs, lowerFrozen_notStale _ _ _ _ hst, frozenShare_other hst]
      omega

theorem feederSum_reverse (s : State) (fs : List Feeder) (g : Channel → Nat) : s.feederSum fs.reverse g = s.feederSum fs g := by
  rw [State.feederSum, State.feederSum, List.map_reverse, List.sum_reverse]

theorem feederSum_append (s : State) (fs gs : List Feeder) (g : Channel → Nat) :
    s.feederSum (fs ++ gs) g = s.feederSum fs g + s.feederSum gs g := by simp [State.feederSum]

/-! ## A split of nothing (R62 to R64) -/

theorem placeLeftover_zero (w : Nat) (os : List OpenFeeder) : ∀ p ∈ placeLeftover w 0 0 os, p.2 = 0 := by
  induction os with
  | nil => simp [placeLeftover]
  | cons o os ih => simpa [placeLeftover, offer] using ih

theorem placeRounds_zero (fuel : Nat) (os : List OpenFeeder) : ∀ p ∈ placeRounds fuel os 0, p.2 = 0 := by
  induction fuel generalizing os with
  | zero => simp [placeRounds]
  | succ fuel ih =>
    rw [placeRounds]
    split
    · rw [Nat.zero_sub]
      exact placeLeftover_zero _ os
    · intro p hp
      rw [Nat.zero_sub] at hp
      rcases List.mem_append.mp hp with hp | hp
      · obtain ⟨o, ho, rfl⟩ := List.mem_map.mp hp
        have : o.capacity ≤ offer (weightSum os) 0 o := of_decide_eq_true (List.mem_filter.mp ho).2
        simpa [offer] using this
      · exact ih _ p hp

theorem placedOn_zero {ps : List (Chan × Nat)} (h : ∀ p ∈ ps, p.2 = 0) (c : Chan) : placedOn c ps = 0 := by
  unfold placedOn
  split
  next p hp => exact h p (List.mem_of_find?_eq_some hp)
  · rfl

/-! ## The cut of a present to its grant (R58, R59) -/

/-- Two states that agree in a record's feeders but for the shares are split alike. -/
theorem reSplit_shares {s t : State} {i : Slot} (hn : ((s.record i).feeders.map fun f => f.channel).Nodup)
    (hfs : (s.record i).feeders = (t.record i).feeders) (hp : (s.record i).present = (t.record i).present)
    (hc : ∀ c, s.channel c = { t.channel c with share := (s.channel c).share }) :
    ∀ f ∈ (s.record i).feeders, (s.reSplit i).channel f.channel = (t.reSplit i).channel f.channel := fun f hf => by
  have hsum : s.frozenSum i = t.frozenSum i := by
    rw [State.frozenSum, State.frozenSum, ← hfs]
    exact congrArg List.sum (List.map_congr_left fun f _ => by rw [hc]; rfl)
  have hopen : s.openFeeders (s.record i).feeders = t.openFeeders (s.record i).feeders := by
    have hcond : ∀ c, (s.channel c).condition = (t.channel c).condition := fun c => by rw [hc]
    have husable : ∀ c, (s.channel c).usable = (t.channel c).usable := fun c => by rw [hc]; rfl
    simp only [State.openFeeders, hcond, husable]
  have hplace : s.placement i = t.placement i := by rw [State.placement, State.placement, ← hfs, ← hp, hsum, hopen]
  rw [reSplit_mem s i hn f hf, reSplit_mem t i (hfs ▸ hn) f (hfs ▸ hf), hplace, hc]
  unfold Channel.resplit
  cases (t.channel f.channel).condition <;> rfl

theorem cutPresent_channel (s : State) (i : Slot) (c : Chan) :
    (s.cutPresent i).channel c = (((s.lowerFrozen (s.frozenSum i - (s.record i).grant) (s.record i).feeders.reverse).setRecord i
      { s.record i with present := (s.record i).grant }).reSplit i).channel c := by
  rw [State.cutPresent, State.movePresent, noteArrival_channel, lowerFrozen_record]

/-- R58: a cut to a grant that the frozen shares fit under is a split of the grant. -/
theorem cutPresent_split {s : State} {i : Slot} (hn : ((s.record i).feeders.map fun f => f.channel).Nodup)
    (hfit : s.frozenSum i ≤ (s.record i).grant) : ∀ f ∈ (s.record i).feeders, (s.cutPresent i).channel f.channel
      = ((s.setRecord i { s.record i with present := (s.record i).grant }).reSplit i).channel f.channel := fun f hf => by
  rw [cutPresent_channel, Nat.sub_eq_zero_of_le hfit]
  have hrec : ∀ u : State, (u.setRecord i { s.record i with present := (s.record i).grant }).record i
      = { s.record i with present := (s.record i).grant } := fun u => record_setRecord_self u i _
  refine reSplit_shares ?_ ?_ ?_ ?_ f ?_
  · rw [hrec]; exact hn
  · rw [hrec, hrec]
  · rw [hrec, hrec]
  · exact fun c => lowerFrozen_zero s _ c
  · rw [hrec]; exact hf

/-- R59: a cut to a grant below the frozen shares leaves the STALE feeders their lowered shares, and the others nothing. -/
theorem cutPresent_lowered {s : State} {i : Slot} (hn : ((s.record i).feeders.map fun f => f.channel).Nodup)
    (hover : (s.record i).grant < s.frozenSum i) : ∀ f ∈ (s.record i).feeders, (s.cutPresent i).channel f.channel
      = if (s.channel f.channel).condition = .stale then
          (s.lowerFrozen (s.frozenSum i - (s.record i).grant) (s.record i).feeders.reverse).channel f.channel
        else { s.channel f.channel with share := 0 } := fun f hf => by
  obtain ⟨t, ht⟩ : ∃ t, t = s.lowerFrozen (s.frozenSum i - (s.record i).grant) (s.record i).feeders.reverse := ⟨_, rfl⟩
  obtain ⟨u, hu⟩ : ∃ u, u = t.setRecord i { s.record i with present := (s.record i).grant } := ⟨_, rfl⟩
  have hrec : u.record i = { s.record i with present := (s.record i).grant } := by rw [hu, record_setRecord_self]
  have hfrozen : u.frozenSum i = (s.record i).grant := by
    have h := lowerFrozen_sum s (s.frozenSum i - (s.record i).grant) (s.record i).feeders.reverse
      (by rw [List.map_reverse, List.nodup_reverse]; exact hn)
    rw [← ht, feederSum_reverse, feederSum_reverse] at h
    have hsum : u.frozenSum i = t.feederSum (s.record i).feeders Channel.frozenShare := by rw [State.frozenSum, hrec, hu]; rfl
    rw [hsum, h, State.frozenSum] at *
    omega
  have hplaced : placedOn f.channel (u.placement i) = 0 := by
    rw [State.placement, hrec, hfrozen, Nat.sub_self]
    exact placedOn_zero (placeRounds_zero _ _) _
  have hchan : u.channel f.channel = t.channel f.channel := by rw [hu]; rfl
  rw [cutPresent_channel, ← ht, ← hu, reSplit_mem u i (by rw [hrec]; exact hn) f (by rw [hrec]; exact hf), hchan]
  by_cases hst : (s.channel f.channel).condition = .stale
  · obtain ⟨before, after, hsplit⟩ := List.append_of_mem (List.mem_reverse.mpr hf)
    have hat := lowerFrozen_at s (s.frozenSum i - (s.record i).grant) before f after
      (by rw [← hsplit, List.map_reverse, List.nodup_reverse]; exact hn) hst
    rw [← hsplit, ← ht] at hat
    rw [if_pos hst, hat]
    unfold Channel.resplit
    simp [Channel.lowered, hst]
  · have hkeep := lowerFrozen_notStale s (s.frozenSum i - (s.record i).grant) (s.record i).feeders.reverse f.channel hst
    rw [← ht] at hkeep
    rw [if_neg hst, hkeep]
    unfold Channel.resplit
    cases hc : (s.channel f.channel).condition <;> simp_all

/-! ## The channels after a publication -/

theorem endDescent_channel (s : State) (i : Slot) (c : Chan) : (s.endDescent i).channel c = (s.zeroShares i).channel c := by
  rw [endDescent_eq]; rfl

theorem shedRecord_channel (s : State) (i : Slot) (c : Chan) : (s.shedRecord i).channel c = (s.zeroShares i).channel c := rfl

section
variable {s : State} {n : Snapshot} (hf : FeederLaw s)
include hf

theorem granted_apart : FeedersApart (s.granted n) := by
  intro i j f hi g hg
  rw [granted_record] at hi hg
  exact feedersApart_of_law hf i j f hi g hg

omit hf in
theorem admitted_feeders (i : Slot) : ((s.admitted n).record i).feeders = (s.record i).feeders := by
  rw [admitted_record, granted_record]
  unfold DrawRecord.shed DrawRecord.engageFor
  repeat' split
  all_goals rfl

theorem admitted_apart : FeedersApart (s.admitted n) := by
  intro i j f hi g hg
  rw [admitted_feeders] at hi hg
  exact feedersApart_of_law hf i j f hi g hg

/-- Where no drop takes effect, the cuts find the channels of a record as they were. -/
theorem admitted_channel_kept {i : Slot} (h : ¬s.drops n i) : ∀ f ∈ (s.record i).feeders, (s.admitted n).channel f.channel = s.channel f.channel := by
  have hagree := foldSlots_agree_other slotOp_shedRecord (granted_apart (n := n) hf) ((s.granted n).effective n.dropped)
    (j := i) (fun h' => h ((mem_effective s n i).mp h'))
  intro f hf'
  rw [admitted_channel, ← granted_channel s n]
  refine hagree.channels f ?_
  rw [hagree.record, granted_record]
  exact hf'

/-- R20: where a drop takes effect, the channels of the record have no share. -/
theorem admitted_channel_dropped {i : Slot} (h : s.drops n i) : ∀ f ∈ (s.record i).feeders,
    (s.admitted n).channel f.channel = { s.channel f.channel with share := 0, frozen := 0 } := by
  have hagree := foldSlots_agree slotOp_shedRecord (granted_apart (n := n) hf) _ (effective_nodup s n) (j := i)
    ((mem_effective s n i).mpr h)
  intro f hf'
  have hin : ∃ g ∈ ((s.granted n).record i).feeders, g.channel = f.channel := by rw [granted_record]; exact ⟨f, hf', rfl⟩
  rw [admitted_channel, hagree.channels f, shedRecord_channel, zeroShares_mem _ _ _ hin, granted_channel]
  rw [hagree.record, shedRecord_record, if_pos rfl, granted_record]
  exact hf'

/-- The channels of a record after the publication are those its own cut leaves. -/
theorem publish_channel_mem (i : Slot) : ∀ f ∈ (s.record i).feeders,
    (s.publish n).channel f.channel = ((s.admitted n).cutAt i).channel f.channel := by
  intro f hf'
  have hagree := foldSlots_agree slotOp_cutAt (admitted_apart (n := n) hf) slots (by decide) (mem_slots i)
  rw [publish_eq, writeBreach_channel, applyCuts_eq]
  refine hagree.channels f ?_
  rw [hagree.record, cutAt_record, if_pos rfl]
  have hfeeders : (((s.admitted n).record i).cut (s.admitted n).seq.state (s.admitted n).timing).feeders = (s.record i).feeders := by
    rw [← admitted_feeders (n := n) i]
    unfold DrawRecord.cut
    repeat' split
    all_goals rfl
  rw [hfeeders]
  exact hf'

omit hf in
/-- A record neither dropped nor admitted, with its grant. -/
theorem admitted_record_active {i : Slot} (hd : ¬s.drops n i) (hst : (s.record i).state ≠ .pending ∧ (s.record i).state ≠ .shed)
    (hfree : (s.record i).state ≠ .free) : (s.admitted n).record i = { s.record i with grant := n.grant i } := by
  rw [admitted_record, if_neg hd, granted_record, if_neg hfree]
  split
  · simp [DrawRecord.engageFor, hst]
  · rfl

/-- The state in which one record has its grant: what the cut at a slot depends on. -/
theorem admitted_agree {i : Slot} (hd : ¬s.drops n i) (hst : (s.record i).state ≠ .pending ∧ (s.record i).state ≠ .shed)
    (hfree : (s.record i).state ≠ .free) : Agree i (s.admitted n) (s.setRecord i { s.record i with grant := n.grant i }) where
  record := by rw [admitted_record_active hd hst hfree, record_setRecord_self]
  channels f hf' := by
    rw [admitted_feeders] at hf'
    exact admitted_channel_kept hf hd f hf'
  seq := (restKept_admitted s n).seq
  timing := (restKept_admitted s n).timing

omit hf in
/-- R58: which presents a publication cuts. -/
theorem admitted_cuts (i : Slot) : (s.admitted n).cutsAt i ↔ ¬s.drops n i ∧ (s.record i).state = .active ∧ n.grant i < (s.record i).present := by
  by_cases hd : s.drops n i
  · have hrec : ((s.admitted n).record i).state = .shed := by rw [admitted_record, if_pos hd]; rfl
    simp [State.cutsAt, hrec, hd]
  · rw [State.cutsAt, admitted_record, if_neg hd, granted_record]
    cases hst : (s.record i).state <;> by_cases ha : i ∈ n.admitted <;> simp [ha, hd, hst, DrawRecord.engageFor]

omit hf in
/-- R60: which RELEASING presents a publication brings to 0. -/
theorem admitted_leaves (i : Slot) : (s.admitted n).leavesAt i
    ↔ (s.record i).state = .releasing ∧ 0 < (s.record i).present ∧ (s.seq.state = .riding ∨ s.seq.state = .blind) := by
  rw [State.leavesAt, (restKept_admitted s n).seq]
  by_cases hd : s.drops n i
  · have hrec : ((s.admitted n).record i).state = .shed := by rw [admitted_record, if_pos hd]; rfl
    have hst : (s.record i).state ≠ .releasing := fun h => by rcases hd.2 with h' | h' <;> rw [h] at h' <;> cases h'
    simp [hrec, hst]
  · rw [admitted_record, if_neg hd, granted_record]
    cases hst : (s.record i).state <;> by_cases ha : i ∈ n.admitted <;> simp [ha, hst, DrawRecord.engageFor]
    all_goals exact and_comm

/-- The slots a publication asks for another pass at. -/
theorem publish_rerun : (s.publish n).engine.rerun = true ↔ s.engine.rerun = true ∨ ∃ i, ((s.admitted n).cutsAt i
    ∧ ((s.admitted n).record i).grant < (s.admitted n).frozenSum i) ∨ (s.admitted n).leavesAt i := by
  have h := foldSlots_mark slotOp_cutAt (fun t => t.engine.pass ≠ .idle) (fun t => t.engine.rerun = true)
    (fun t i => (t.cutsAt i ∧ (t.record i).grant < t.frozenSum i) ∨ t.leavesAt i)
    (fun i t u htu => by rw [State.cutsAt, State.cutsAt, State.leavesAt, State.leavesAt, htu.record, htu.frozenSum, htu.seq])
    (fun t i ht => by rw [(cutAt_rerunsOnly t i ht).pass]; exact ht) (fun t i ht => cutAt_rerun ht i)
    (admitted_pass s n) (admitted_apart hf) slots (by decide)
  have hengine := admitted_engine s n
  rw [publish_eq, writeBreach_engine, applyCuts_eq]
  revert h
  generalize s.admitted n = u at hengine ⊢
  intro h
  rw [h, hengine, granted_engine]
  simp only [mem_slots, true_and]

end

/-- Settles O36: slot by slot, each record's channels depend on its own cut alone. -/
theorem publicationMovesChannels : Obligations.PublicationMovesChannels := by
  intro s t n hup hf hnodup hn ht gone cut leaving hgone hcut hleaving
  obtain rfl : s.publish n = t := by
    have h := ht.symm.trans (exec_opened_running hup hn)
    exact (Host.Outcome.next.inj h).symm
  have hactive : ∀ i, cut i → ¬s.drops n i ∧ (s.record i).state = .active ∧ n.grant i < (s.record i).present := fun i h => by
    obtain ⟨h1, h2, h3⟩ := (hcut i).mp h
    exact ⟨fun hd => h1 ((hgone i).mpr hd), h2, h3⟩
  have hcuts : ∀ i, (s.admitted n).cutsAt i ↔ cut i := fun i => by rw [admitted_cuts, hcut, hgone]
  have hleaves : ∀ i, (s.admitted n).leavesAt i ↔ leaving i := fun i => by rw [admitted_leaves, hleaving]
  have hone : ∀ i, cut i → Agree i (s.admitted n) (s.setRecord i { s.record i with grant := n.grant i }) := fun i hi => by
    obtain ⟨h1, h2, -⟩ := hactive i hi
    exact admitted_agree hf h1 (by simp [h2]) (by simp [h2])
  have hrecord : ∀ i, (s.setRecord i { s.record i with grant := n.grant i }).record i = { s.record i with grant := n.grant i } :=
    fun i => record_setRecord_self s i _
  have hfrozen : ∀ i, (s.setRecord i { s.record i with grant := n.grant i }).frozenSum i = s.frozenSum i := fun i => by
    rw [State.frozenSum, hrecord]; rfl
  have hchannel : ∀ i, cut i → ∀ f ∈ (s.record i).feeders, (s.publish n).channel f.channel
      = ((s.setRecord i { s.record i with grant := n.grant i }).cutPresent i).channel f.channel := fun i hi f hfi => by
    have hcuts' : (s.setRecord i { s.record i with grant := n.grant i }).cutsAt i := by
      rw [State.cutsAt, hrecord]
      exact (hactive i hi).2
    have hagree := (slotOp_cutAt i).congr _ _ (hone i hi)
    rw [publish_channel_mem hf i f hfi, hagree.channels f (by rw [(slotOp_cutAt i).feeders, admitted_feeders]; exact hfi)]
    rcases cutAt_cases (s.setRecord i { s.record i with grant := n.grant i }) i with ⟨-, -, e⟩ | ⟨h, -⟩ | ⟨h, -⟩
    · rw [e, requestIf_channel]
    · exact absurd hcuts' h
    · exact absurd hcuts' h
  have hkept : ∀ i, ¬(s.admitted n).cutsAt i → ¬(s.admitted n).leavesAt i → (s.admitted n).cutAt i = s.admitted n := fun i h1 h2 => by
    rcases cutAt_cases (s.admitted n) i with ⟨h, -⟩ | ⟨-, h, -⟩ | ⟨-, -, e⟩
    · exact absurd h h1
    · exact absurd h h2
    · exact e
  refine ⟨fun i hi f hfi => ?zero, fun i hi hfit f hfi => ?split, fun i before after f hi hover hsplit => ?lowered, fun c hc => ?other, ?rerun, ?arrival⟩
  case zero =>
    rw [publish_channel_mem hf i f hfi]
    rcases hi with hi | hi
    · have hd := (hgone i).mp hi
      rw [hkept i (fun h => ((hcut i).mp ((hcuts i).mp h)).1 hi) fun h => ?_, admitted_channel_dropped hf hd f hfi]
      have := ((hleaving i).mp ((hleaves i).mp h)).1
      rcases hd.2 with h' | h' <;> rw [this] at h' <;> cases h'
    · have hst := ((hleaving i).mp hi).1
      have hd : ¬s.drops n i := fun hd => by rcases hd.2 with h' | h' <;> rw [hst] at h' <;> cases h'
      have hin : ∃ g ∈ ((s.admitted n).record i).feeders, g.channel = f.channel := by rw [admitted_feeders]; exact ⟨f, hfi, rfl⟩
      rcases cutAt_cases (s.admitted n) i with ⟨-, h, -⟩ | ⟨-, -, e⟩ | ⟨-, h, -⟩
      · exact absurd ((hleaves i).mpr hi) h
      · rw [e, requestPass_channel, endDescent_channel, zeroShares_mem _ _ _ hin, admitted_channel_kept hf hd f hfi]
      · exact absurd ((hleaves i).mpr hi) h
  case split =>
    have h := cutPresent_split (s := s.setRecord i { s.record i with grant := n.grant i }) (i := i) (by rw [hrecord]; exact hnodup i)
      (by rw [hfrozen, hrecord]; exact hfit) f (by rw [hrecord]; exact hfi)
    rw [hchannel i hi f hfi, h, hrecord]
    have hrec : ∀ (u : State) (r : DrawRecord), (u.setRecord i r).record i = r := fun u r => record_setRecord_self u i r
    refine reSplit_congr (s := (s.setRecord i _).setRecord i _) (t := s.setRecord i _) ?_ ?_ (fun g _ => rfl) f ?_
    · rw [hrec, hrec]
    · rw [hrec, hrec]
    · rw [hrec]; exact hfi
  case lowered =>
    have hfi : f ∈ (s.record i).feeders := by simp [hsplit]
    have h := cutPresent_lowered (s := s.setRecord i { s.record i with grant := n.grant i }) (i := i) (by rw [hrecord]; exact hnodup i)
      (by rw [hfrozen, hrecord]; exact hover) f (by rw [hrecord]; exact hfi)
    rw [hchannel i hi f hfi, h]
    refine ⟨fun hst => if_neg hst, fun hst kept hkept' => ?_⟩
    have hreverse : (s.record i).feeders.reverse = after.reverse ++ f :: before.reverse := by rw [hsplit]; simp
    have hat := lowerFrozen_at (s.setRecord i { s.record i with grant := n.grant i }) (s.frozenSum i - n.grant i) after.reverse f before.reverse
      (by rw [← hreverse, List.map_reverse, List.nodup_reverse]; exact hnodup i) hst
    have hsum : s.frozenSum i = s.feederSum before Channel.frozenShare + (s.channel f.channel).frozen + s.feederSum after Channel.frozenShare := by
      rw [State.frozenSum, hsplit, feederSum_append, feederSum_cons, frozenShare_stale hst, Nat.add_assoc]
    have hafter : (s.setRecord i { s.record i with grant := n.grant i }).feederSum after.reverse Channel.frozenShare
        = s.feederSum after Channel.frozenShare := feederSum_reverse s after _
    rw [← hreverse, hafter] at hat
    refine (if_pos hst).trans ?_
    rw [hfrozen, hrecord]
    refine hat.trans ?_
    have hval : (s.channel f.channel).frozen - min (s.channel f.channel).frozen
        (s.frozenSum i - n.grant i - s.feederSum after Channel.frozenShare) = kept := by omega
    rw [Channel.lowered, setRecord_channel, hval]
  case other =>
    have hdrop : ∀ i ∈ (s.granted n).effective n.dropped, ∀ f ∈ ((s.granted n).record i).feeders, f.channel ≠ c := fun i hi f hfi => by
      rw [granted_record] at hfi
      exact hc i (.inl ((hgone i).mpr ((mem_effective s n i).mp hi))) f hfi
    have hmid : (s.admitted n).channel c = s.channel c := by
      rw [admitted_channel, foldSlots_channel_other slotOp_shedRecord _ hdrop, granted_channel]
    by_cases hfed : ∃ i, ∃ f ∈ (s.record i).feeders, f.channel = c
    · obtain ⟨i, f, hfi, rfl⟩ := hfed
      rw [publish_channel_mem hf i f hfi, hkept i (fun h => ?_) (fun h => ?_), hmid]
      · exact hc i (.inr (.inl ((hcuts i).mp h))) f hfi rfl
      · exact hc i (.inr (.inr ((hleaves i).mp h))) f hfi rfl
    · rw [publish_eq, writeBreach_channel, applyCuts_eq, foldSlots_channel_other slotOp_cutAt _ (fun i _ f hfi hfc => ?_), hmid]
      rw [admitted_feeders] at hfi
      exact hfed ⟨i, f, hfi, hfc⟩
  case rerun =>
    rw [publish_rerun hf]
    refine or_congr_right ?_
    rw [exists_or]
    refine or_congr (exists_congr fun i => ?_) (exists_congr hleaves)
    constructor
    · rintro ⟨h1, h2⟩
      have hi := (hcuts i).mp h1
      rw [(hone i hi).frozenSum, (hone i hi).record, hfrozen, hrecord] at h2
      exact ⟨hi, h2⟩
    · rintro ⟨hi, h2⟩
      refine ⟨(hcuts i).mpr hi, ?_⟩
      rw [(hone i hi).frozenSum, (hone i hi).record, hfrozen, hrecord]
      exact h2
  case arrival =>
    have h := foldSlots_raises slotOp_cutAt srcArrival (fun t i => t.cutsAt i ∧ (t.record i).grant = (t.record i).target)
      (fun i t u htu => by rw [State.cutsAt, State.cutsAt, htu.record]) cutAt_raises (admitted_apart (n := n) hf) slots (by decide)
    have hbefore : (s.admitted n).source srcArrival = s.source srcArrival := by
      rw [admitted_source, applyDrops_source _ _ (by decide) (by decide), granted_source]
    have hafter : (s.publish n).source srcArrival = (s.admitted n).applyCuts.source srcArrival := by
      rw [publish_eq, writeBreach_source _ n (by decide)]
    refine ((raises_of_eq hbefore).trans (Raises.trans h (raises_of_eq hafter))).congr fun m => ?_
    simp only [false_or, or_false, mem_slots, true_and]
    refine exists_congr fun i => and_congr_right fun _ => ?_
    constructor
    · rintro ⟨h1, h2⟩
      have hi := (hcuts i).mp h1
      rw [(hone i hi).record, hrecord] at h2
      exact ⟨hi, h2⟩
    · rintro ⟨hi, h2⟩
      refine ⟨(hcuts i).mpr hi, ?_⟩
      rw [(hone i hi).record, hrecord]
      exact h2

end Sys2Proof.Machine

/-!
The step expiry (R53 to R57): each record is stepped on its own.
-/

namespace Sys2Proof.Machine

theorem lowerAim_eq (r : DrawRecord) : r.lowerAim = { r with aim := r.lowerAim.aim } := by
  unfold DrawRecord.lowerAim
  split <;> rfl

theorem lowerAim_aim (r : DrawRecord) : r.lowerAim.aim
    = if (r.state = .engaging ∨ r.state = .active) ∧ r.target < r.aim then max r.target (r.aim - r.downRate) else r.aim := by
  unfold DrawRecord.lowerAim
  split <;> rfl

theorem lowerAim_releasing {r : DrawRecord} (h : r.state = .releasing) : r.lowerAim = r := by
  unfold DrawRecord.lowerAim
  exact if_neg (by simp [h])

/-- Whether the present of the record at a slot rises in a step (R56). -/
abbrev State.risesAt (s : State) (i : Slot) : Prop :=
  (s.record i).state = .active ∧ (s.record i).present < min (s.record i).grant (s.ceff i)

/-- Whether the present of the record at a slot falls, or its descent ends, in a step (R57). -/
abbrev State.fallsAt (s : State) (i : Slot) : Prop := (s.record i).state = .releasing ∧ (s.record i).present ≠ 0

theorem stepPresent_eq (s : State) (i : Slot) : s.stepPresent i =
    if s.risesAt i then s.movePresent i (min ((s.record i).present + (s.record i).upRate) (min (s.record i).grant (s.ceff i)))
    else if s.fallsAt i then
      if s.releaseBound i < (s.record i).present then
        s.movePresent i (max ((s.record i).present - (s.record i).downRate) (s.releaseBound i))
      else s.endDescent i
    else s := by
  unfold State.stepPresent State.risesAt State.fallsAt
  cases hst : (s.record i).state <;> simp only [hst, reduceCtorEq, false_and, true_and, ↓reduceIte, ite_not]

theorem slotOp_stepPresent (i : Slot) : SlotOp i fun s => s.stepPresent i := by
  simp only [stepPresent_eq]
  refine SlotOp.ite (fun s => s.risesAt i) (fun s t h => by rw [State.risesAt, State.risesAt, h.record, h.ceff])
    (slotOp_movePresent _ fun s t h => by rw [h.record, h.ceff]) ?_
  refine SlotOp.ite (fun s => s.fallsAt i) (fun s t h => by rw [State.fallsAt, State.fallsAt, h.record]) ?_ (slotOp_id i)
  exact SlotOp.ite (fun s => s.releaseBound i < (s.record i).present) (fun s t h => by rw [h.record, h.releaseBound])
    (slotOp_movePresent _ fun s t h => by rw [h.record, h.releaseBound]) (slotOp_endDescent i)

theorem slotOp_lowerAim (i : Slot) : SlotOp i fun s => s.setRecord i (s.record i).lowerAim :=
  slotOp_setRecord (fun _ r => r.lowerAim) (fun _ r => by rw [lowerAim_eq]) fun s t h => by rw [h.record]

theorem slotOp_stepRecord (i : Slot) : SlotOp i fun s => s.stepRecord i := (slotOp_lowerAim i).comp (slotOp_stepPresent i)

theorem restKept_stepRecord (s : State) (i : Slot) : RestKept s (s.stepRecord i) := (slotOp_stepRecord i).rest s

/-- The state with the aim of the record at a slot lowered. -/
abbrev State.aimLowered (s : State) (i : Slot) : State := s.setRecord i (s.record i).lowerAim

theorem aimLowered_record (s : State) (i : Slot) : (s.aimLowered i).record i = { s.record i with aim := (s.record i).lowerAim.aim } := by
  rw [State.aimLowered, record_setRecord_self]
  exact lowerAim_eq _

theorem aimLowered_ceff (s : State) (i : Slot) : (s.aimLowered i).ceff i = s.ceff i := by
  rw [State.ceff, State.carrying, aimLowered_record]
  rfl

theorem aimLowered_rises (s : State) (i : Slot) : (s.aimLowered i).risesAt i ↔ s.risesAt i := by
  rw [State.risesAt, aimLowered_record, aimLowered_ceff]

theorem aimLowered_falls (s : State) (i : Slot) : (s.aimLowered i).fallsAt i ↔ s.fallsAt i := by
  rw [State.fallsAt, aimLowered_record]

/-- R54 to R57: the four things a step does at a slot. -/
theorem stepRecord_cases (s : State) (i : Slot) :
    (s.risesAt i ∧ s.stepRecord i
        = (s.aimLowered i).movePresent i (min ((s.record i).present + (s.record i).upRate) (min (s.record i).grant (s.ceff i))))
    ∨ (¬s.risesAt i ∧ s.fallsAt i ∧ s.releaseBound i < (s.record i).present ∧ s.stepRecord i
        = s.movePresent i (max ((s.record i).present - (s.record i).downRate) (s.releaseBound i)))
    ∨ (¬s.risesAt i ∧ s.fallsAt i ∧ ¬s.releaseBound i < (s.record i).present ∧ s.stepRecord i = s.endDescent i)
    ∨ (¬s.risesAt i ∧ ¬s.fallsAt i ∧ s.stepRecord i = s.aimLowered i) := by
  have hstep : s.stepRecord i = (s.aimLowered i).stepPresent i := rfl
  by_cases hr : s.risesAt i
  · refine .inl ⟨hr, ?_⟩
    rw [hstep, stepPresent_eq, if_pos ((aimLowered_rises s i).mpr hr), aimLowered_ceff, aimLowered_record]
  have hr' : ¬(s.aimLowered i).risesAt i := fun h => hr ((aimLowered_rises s i).mp h)
  by_cases hf : s.fallsAt i
  · have hsame : s.aimLowered i = s := by rw [State.aimLowered, lowerAim_releasing hf.1, setRecord_record]
    rw [hsame] at hr' hstep
    rw [hstep, stepPresent_eq, if_neg hr', if_pos hf]
    by_cases hb : s.releaseBound i < (s.record i).present
    · exact .inr (.inl ⟨hr, hf, hb, if_pos hb⟩)
    · exact .inr (.inr (.inl ⟨hr, hf, hb, if_neg hb⟩))
  · refine .inr (.inr (.inr ⟨hr, hf, ?_⟩))
    rw [hstep, stepPresent_eq, if_neg hr', if_neg fun h => hf ((aimLowered_falls s i).mp h)]

/-- R56, R57: what a step makes of a record, by what its feeders can carry and hold frozen. -/
def DrawRecord.stepped (r : DrawRecord) (ceff bound : Nat) (tm : Timing) : DrawRecord :=
  if r.state = .active then
    { r with aim := r.lowerAim.aim
             present := if r.present < min r.grant ceff then min (r.present + r.upRate) (min r.grant ceff) else r.present }
  else if r.state = .releasing ∧ r.present ≠ 0 then
    if bound < r.present then { r with present := max (r.present - r.downRate) bound }
    else { r with present := 0, releaseTimer := some tm.releaseTime }
  else { r with aim := r.lowerAim.aim }

theorem stepRecord_record_self (s : State) (i : Slot) :
    (s.stepRecord i).record i = (s.record i).stepped (s.ceff i) (s.releaseBound i) s.timing := by
  rw [DrawRecord.stepped]
  rcases stepRecord_cases s i with ⟨hr, e⟩ | ⟨-, hf, hb, e⟩ | ⟨-, hf, hb, e⟩ | ⟨hr, hf, e⟩
  · rw [e, movePresent_record, if_pos rfl, aimLowered_record, if_pos hr.1, if_pos hr.2]
  · have hst : (s.record i).state ≠ .active := by rw [hf.1]; exact RecordState.noConfusion
    rw [e, movePresent_record, if_pos rfl, if_neg hst, if_pos hf, if_pos hb]
  · have hst : (s.record i).state ≠ .active := by rw [hf.1]; exact RecordState.noConfusion
    rw [e, endDescent_record, if_pos rfl, if_neg hst, if_pos hf, if_neg hb]
  · rw [e, aimLowered_record, if_neg hf]
    split
    next ha => rw [if_neg fun h => hr ⟨ha, h⟩]
    · rfl

/-- The channels of a record after its step: split anew with its present, or without shares with it. -/
theorem stepRecord_channel_moved {s : State} {i : Slot} (h : s.risesAt i ∨ (s.fallsAt i ∧ s.releaseBound i < (s.record i).present)) (c : Chan) :
    (s.stepRecord i).channel c = ((s.setRecord i ((s.stepRecord i).record i)).reSplit i).channel c := by
  have hset : ∀ (a b : DrawRecord), (s.setRecord i a).setRecord i b = s.setRecord i b := fun a b => by simp [State.setRecord]
  rcases stepRecord_cases s i with ⟨-, e⟩ | ⟨-, -, -, e⟩ | ⟨hr, -, hb, -⟩ | ⟨hr, hf, -⟩
  · rw [e, movePresent_record, if_pos rfl, State.movePresent, noteArrival_channel, hset]
  · rw [e, movePresent_record, if_pos rfl, State.movePresent, noteArrival_channel]
  · exact absurd h (not_or.mpr ⟨hr, fun h => hb h.2⟩)
  · exact absurd h (not_or.mpr ⟨hr, fun h => hf h.1⟩)

theorem stepRecord_channel_ended {s : State} {i : Slot} (hf : s.fallsAt i) (hb : ¬s.releaseBound i < (s.record i).present) (c : Chan) :
    (s.stepRecord i).channel c = (s.zeroShares i).channel c := by
  rcases stepRecord_cases s i with ⟨hr, -⟩ | ⟨-, -, hb', -⟩ | ⟨-, -, -, e⟩ | ⟨-, hf', -⟩
  · have h := hr.1
    rw [hf.1] at h
    cases h
  · exact absurd hb' hb
  · rw [e, endDescent_channel]
  · exact absurd hf hf'

theorem stepRecord_channel_kept {s : State} {i : Slot} (hr : ¬s.risesAt i) (hf : ¬s.fallsAt i) (c : Chan) :
    (s.stepRecord i).channel c = s.channel c := by
  rcases stepRecord_cases s i with ⟨hr', -⟩ | ⟨-, hf', -⟩ | ⟨-, hf', -⟩ | ⟨-, -, e⟩
  · exact absurd hr' hr
  · exact absurd hf' hf
  · exact absurd hf' hf
  · rw [e]; rfl

theorem stepPresent_engine (s : State) (i : Slot) : (s.stepPresent i).engine = s.engine := by
  rw [stepPresent_eq]
  repeat' split
  · exact movePresent_engine _ _ _
  · exact movePresent_engine _ _ _
  · exact endDescent_engine _ _
  · rfl

theorem stepRecord_engine (s : State) (i : Slot) : (s.stepRecord i).engine = s.engine := stepPresent_engine _ i

theorem stepRecord_source (s : State) (i : Slot) {k : SourceNo} (h : k ≠ srcArrival) : (s.stepRecord i).source k = s.source k := by
  rw [State.stepRecord, stepPresent_eq]
  repeat' split
  · exact movePresent_source _ _ _ h
  · exact movePresent_source _ _ _ h
  · exact endDescent_source _ _ _
  · rfl

theorem stepRecord_bank (s : State) (i : Slot) (b : BankNo) : (s.stepRecord i).bank b = s.bank b := by
  rw [State.stepRecord, stepPresent_eq]
  repeat' split
  · exact movePresent_bank _ _ _ _
  · exact movePresent_bank _ _ _ _
  · exact endDescent_bank _ _ _
  · rfl

/-- R73: whether a step brings the present of an ACTIVE record to its target. -/
abbrev State.arrivesAt (s : State) (i : Slot) : Prop :=
  s.risesAt i ∧ min ((s.record i).present + (s.record i).upRate) (min (s.record i).grant (s.ceff i)) = (s.record i).target
    ∧ (s.record i).present ≠ (s.record i).target

theorem stepRecord_raises (s : State) (i : Slot) : Raises s (s.stepRecord i) srcArrival fun m => i.val = m ∧ s.arrivesAt i := by
  rcases stepRecord_cases s i with ⟨hr, e⟩ | ⟨hr, hf, -, e⟩ | ⟨hr, -, -, e⟩ | ⟨hr, -, e⟩
  · have h := movePresent_raises (s.aimLowered i) i (min ((s.record i).present + (s.record i).upRate) (min (s.record i).grant (s.ceff i)))
    rw [e]
    refine ((raises_of_eq (s := s) rfl).trans h).congr fun m => ?_
    rw [aimLowered_record]
    exact ⟨fun h => h.elim False.elim fun h => ⟨h.1, hr, h.2.2⟩, fun h => .inr ⟨h.1, hr.1, h.2.2⟩⟩
  · have hst : (s.record i).state ≠ .active := by rw [hf.1]; exact RecordState.noConfusion
    rw [e]
    exact (movePresent_raises s i _).congr fun m => by simp [State.arrivesAt, hr, hst]
  · rw [e]
    exact (raises_of_eq (endDescent_source s i _)).congr fun m => by simp [State.arrivesAt, hr]
  · rw [e]
    exact (raises_of_eq rfl).congr fun m => by simp [State.arrivesAt, hr]

/-! ## The whole step -/

theorem vector_ext_get {α : Type} {n : Nat} {v w : Vector α n} (h : ∀ i, v.get i = w.get i) : v = w := by
  apply Vector.ext
  intro i hi
  simpa [Vector.get_eq_getElem] using h ⟨i, hi⟩

/-- The state after the work of a step expiry, before its pass request. -/
def State.stepped (s : State) : State := slots.foldl State.stepRecord s

theorem takeStep_eq (s : State) : s.takeStep = s.stepped.requestIf (slots.any fun i => (s.record i).stepRequests) := rfl

theorem stepped_engine (s : State) : s.stepped.engine = s.engine := by rw [State.stepped, foldSlots_engine stepRecord_engine]

theorem restKept_stepped (s : State) : RestKept s s.stepped := restKept_foldl restKept_stepRecord slots s

theorem restKept_takeStep (s : State) : RestKept s s.takeStep := by
  rw [takeStep_eq]
  exact (restKept_stepped s).trans (restKept_requestIf _ _)

theorem stepped_agree {s : State} (hs : FeedersApart s) (i : Slot) : Agree i s.stepped (s.stepRecord i) :=
  foldSlots_agree slotOp_stepRecord hs slots (by decide) (mem_slots i)

/-- R55, R57: whether a step expiry at a record asks for a pass. -/
theorem stepRequests_iff (r : DrawRecord) : r.stepRequests = true ↔ r.lowerAim.aim ≠ r.aim ∨ (r.state = .releasing ∧ r.present ≠ 0) := by
  have hlower : r.lowerAim ≠ r ↔ r.lowerAim.aim ≠ r.aim := by
    rw [not_iff_not]
    constructor
    · exact fun h => by rw [h]
    · intro h
      rw [lowerAim_eq, h]
  simp [DrawRecord.stepRequests, hlower]

theorem exec_stepTimerExpiry {s : State} (hup : s.up) (hrun : s.ramp.stepTimer ≠ none) : exec .stepTimerExpiry s = .next
    (if s.engine.pass.inFlight then s.restartStep.setRamp { s.restartStep.ramp with deferred := s.restartStep.ramp.deferred + 1 }
      else s.restartStep.takeStep) := by
  have h : s.ramp.stepTimer.isSome = true := Option.isSome_iff_ne_none.mpr hrun
  rw [exec, execStepTimerExpiry, whileRunning_up hup]
  simp only [h, ↓reduceIte]

/-- Settles O38: `stepped_agree` for the records and channels, and what the steps raise and request. -/
theorem stepExpiryMovesRecords : Obligations.StepExpiryMovesRecords := by
  intro s hup
  refine ⟨fun hstop => ?_, fun hrun hpass => ?_, fun hrun hidle hf aim haim => ?_⟩
  · rw [exec, execStepTimerExpiry, whileRunning_up hup]
    simp [hstop]
  · have hfly : s.engine.pass.inFlight = true := by rw [inFlight_eq]; exact decide_eq_true hpass
    rw [exec_stepTimerExpiry hup hrun, if_pos hfly]
    rfl
  obtain ⟨u, hu⟩ : ∃ u, u = s.restartStep := ⟨_, rfl⟩
  have hrecord : ∀ i, u.record i = s.record i := fun i => by rw [hu]; rfl
  have hchan : ∀ c, u.channel c = s.channel c := fun c => by rw [hu]; rfl
  have hceff : ∀ i, u.ceff i = s.ceff i := fun i => by rw [hu]; rfl
  have hbound : ∀ i, u.releaseBound i = s.releaseBound i := fun i => by rw [hu]; rfl
  have hrises : ∀ i, u.risesAt i ↔ s.risesAt i := fun i => by rw [State.risesAt, State.risesAt, hrecord, hceff]
  have hfalls : ∀ i, u.fallsAt i ↔ s.fallsAt i := fun i => by rw [State.fallsAt, State.fallsAt, hrecord]
  have hfly : s.engine.pass.inFlight = false := by rw [hidle]; rfl
  have happart : FeedersApart u := fun i j f hi g hg => by
    rw [hrecord] at hi hg
    exact feedersApart_of_law hf i j f hi g hg
  have haim' : ∀ i, aim i = (s.record i).lowerAim.aim := fun i => by rw [haim i _ rfl, lowerAim_aim]
  have hexec : exec .stepTimerExpiry s = .next u.takeStep := by
    rw [exec_stepTimerExpiry hup hrun, hfly, hu]
    rfl
  have hrec : ∀ i, (u.takeStep).record i = (s.record i).stepped (s.ceff i) (s.releaseBound i) s.timing := fun i => by
    rw [takeStep_eq, requestIf_record, (stepped_agree happart i).record, stepRecord_record_self, hrecord, hceff, hbound, hu]
    rfl
  have hchannel : ∀ i, ∀ f ∈ (s.record i).feeders, u.takeStep.channel f.channel = (u.stepRecord i).channel f.channel := fun i f hfi => by
    rw [takeStep_eq, requestIf_channel]
    refine (stepped_agree happart i).channels f ?_
    rw [(stepped_agree happart i).record, (slotOp_stepRecord i).feeders, hrecord]
    exact hfi
  have hengine : u.stepped.engine = s.engine := by rw [stepped_engine, hu]; rfl
  have hany : (slots.any fun i => (u.record i).stepRequests) = true
      ↔ ∃ i, aim i ≠ (s.record i).aim ∨ ((s.record i).state = .releasing ∧ (s.record i).present ≠ 0) := by
    rw [List.any_eq_true]
    simp only [mem_slots, true_and, hrecord, stepRequests_iff, haim']
  refine ⟨u.takeStep, hexec, fun i r limit bound hr hl hb => ?record, ?arrival, fun hex => ?requests, fun hnone => ?quiet,
    fun hnodup moved ended hended hmoved => ?channels, fun m hm => ?sources, ?ramp, ?rest⟩
  case record =>
    subst hr hl hb
    rw [hrec, DrawRecord.stepped, ← haim' i]
    rfl
  case arrival =>
    have h := foldSlots_raises slotOp_stepRecord srcArrival (fun t i => t.arrivesAt i)
      (fun i t v htv => by rw [State.arrivesAt, State.arrivesAt, State.risesAt, State.risesAt, htv.record, htv.ceff])
      stepRecord_raises happart slots (by decide)
    have hbefore : u.source srcArrival = s.source srcArrival := by rw [hu]; rfl
    have hafter : u.takeStep.source srcArrival = u.stepped.source srcArrival := by rw [takeStep_eq, requestIf_source]
    refine ((raises_of_eq hbefore).trans (Raises.trans h (raises_of_eq hafter))).congr fun m => ?_
    simp only [false_or, or_false, mem_slots, true_and]
    refine exists_congr fun i => and_congr_right fun _ => ?_
    rw [State.arrivesAt, hrises, hrecord, hceff, hrec, DrawRecord.stepped]
    by_cases hst : (s.record i).state = .active
    · by_cases hlt : (s.record i).present < min (s.record i).grant (s.ceff i)
      · simp only [State.risesAt, hst, hlt, true_and, ↓reduceIte]
        exact and_comm
      · have hno : ¬s.risesAt i := fun h => hlt h.2
        simp only [hno, false_and, hst, hlt, true_and, ↓reduceIte, false_iff, not_and]
        exact fun h h' => h h'
    · have hno : ¬s.risesAt i := fun h => hst h.1
      simp only [hno, hst, false_and]
  case requests =>
    rw [takeStep_eq, hany.mpr hex]
    revert hengine
    generalize u.stepped = w
    intro hengine
    have hw : w.engine.pass = .idle := by rw [hengine]; exact hidle
    change w.requestPass.engine = { s.engine with pass := .running w.requestPass.snapshot, rerun := false }
    rw [requestPass_snapshot, requestPass_idle hw, State.startPass, setEngine_engine, hengine]
  case quiet =>
    have hno : (slots.any fun i => (u.record i).stepRequests) = false := by
      rw [Bool.eq_false_iff, ne_eq, hany]
      rintro ⟨i, h | h⟩
      · exact h (hnone i).1
      · exact h.2 ((hnone i).2 h.1)
    rw [takeStep_eq, hno]
    exact hengine
  case channels =>
    have hended' : ∀ i, ended i ↔ s.fallsAt i ∧ ¬s.releaseBound i < (s.record i).present := fun i => by
      rw [hended, State.fallsAt, and_assoc, State.releaseBound, not_lt]
    have hmoved' : ∀ i, moved i ↔ s.risesAt i ∨ (s.fallsAt i ∧ s.releaseBound i < (s.record i).present) := fun i => by
      rw [hmoved, hended', State.risesAt]
      refine or_congr_right ?_
      rw [← and_assoc]
      exact and_congr_right fun h => ⟨fun h' => by_contra fun h'' => h' ⟨h, h''⟩, fun h' h'' => h''.2 h'⟩
    have hstepped : ∀ i, (u.stepRecord i).record i = (s.record i).stepped (s.ceff i) (s.releaseBound i) s.timing := fun i => by
      rw [stepRecord_record_self, hrecord, hceff, hbound, hu]
      rfl
    have hfed : ∀ i, ¬moved i → ¬ended i → ∀ f ∈ (s.record i).feeders, u.takeStep.channel f.channel = s.channel f.channel :=
      fun i hm he f hfi => by
        have hnot : ¬s.risesAt i ∧ ¬s.fallsAt i := by
          rw [hmoved'] at hm
          rw [hended'] at he
          exact ⟨fun h => hm (.inl h), fun h => he ⟨h, fun hb => hm (.inr ⟨h, hb⟩)⟩⟩
        rw [hchannel i f hfi, stepRecord_channel_kept (fun h => hnot.1 ((hrises i).mp h)) (fun h => hnot.2 ((hfalls i).mp h)), hchan]
    refine ⟨fun i hi f hfi => ?_, fun i hi f hfi => ?_, fun c hc => ?_⟩
    · have h := (hmoved' i).mp hi
      rw [← hrises, ← hfalls, ← hbound, ← hrecord] at h
      have hrec' : ∀ (v : State) (r : DrawRecord), (v.setRecord i r).record i = r := fun v r => record_setRecord_self v i r
      rw [hchannel i f hfi, stepRecord_channel_moved h]
      refine reSplit_congr (s := u.setRecord i _) (t := s.setRecord i _) ?_ ?_ (fun g _ => hchan g.channel) f ?_
      · rw [hrec', hrec', (slotOp_stepRecord i).feeders, hrecord]
      · rw [hrec', hrec', hstepped, hrec]
      · rw [hrec', (slotOp_stepRecord i).feeders, hrecord]
        exact hfi
    · have h := (hended' i).mp hi
      have hin : ∃ g ∈ (u.record i).feeders, g.channel = f.channel := by rw [hrecord]; exact ⟨f, hfi, rfl⟩
      rw [hchannel i f hfi, stepRecord_channel_ended ((hfalls i).mpr h.1) (by rw [hbound, hrecord]; exact h.2),
        zeroShares_mem _ _ _ hin, hchan]
    · by_cases hfeeds : ∃ i, ∃ f ∈ (s.record i).feeders, f.channel = c
      · obtain ⟨i, f, hfi, rfl⟩ := hfeeds
        exact hfed i (fun h => hc i (.inl h) f hfi rfl) (fun h => hc i (.inr h) f hfi rfl) f hfi
      · rw [takeStep_eq, requestIf_channel, State.stepped, foldSlots_channel_other slotOp_stepRecord _ fun i _ f hfi hfc => ?_, hchan]
        rw [hrecord] at hfi
        exact hfeeds ⟨i, f, hfi, hfc⟩
  case sources =>
    rw [takeStep_eq, requestIf_source, State.stepped, foldSlots_source fun t i => stepRecord_source t i hm, hu]
    rfl
  case ramp =>
    rw [(restKept_takeStep u).ramp, hu]
    rfl
  case rest =>
    have hbanks : u.takeStep.banks = u.banks := by
      rw [takeStep_eq, requestIf_eq, setEngine_banks]
      exact vector_ext_get fun b => foldSlots_bank (fun t i => stepRecord_bank t i b) slots u
    have h := restKept_takeStep u
    rw [hu] at h hbanks ⊢
    generalize s.restartStep.takeStep = w at h hbanks ⊢
    cases w
    cases s
    simp_all [State.restartStep, State.setRamp]

end Sys2Proof.Machine

/-!
The publication window (R47): its parts, and the whole of it.
-/

namespace Sys2Proof.Machine

/-! ## What a command taken leaves of the Engine and the Ramp Unit -/

theorem setMask_eq (s : State) (mask : Byte) : s.setMask mask = { s with attention := (s.setMask mask).attention } := by
  have h := setMask_keeps s mask
  revert h
  generalize s.setMask mask = u
  exact fun h => congrArg (fun x : State => { x with attention := u.attention }) h

/-- A command taken while a pass is in flight leaves the pass state, and no command touches the Ramp Unit or begins a reset. -/
theorem perform_flying (c : Cmd) (s : State) :
    (perform c s).1.ramp = s.ramp ∧ (perform c s).1.resetState = s.resetState
      ∧ (s.engine.pass ≠ .idle → (perform c s).1.engine.pass = s.engine.pass) := by
  have hreq : ∀ u : State, u.ramp = s.ramp → u.resetState = s.resetState → u.engine.pass = s.engine.pass →
      u.requestPass.ramp = s.ramp ∧ u.requestPass.resetState = s.resetState
        ∧ (s.engine.pass ≠ .idle → u.requestPass.engine.pass = s.engine.pass) := fun u hr hs hp =>
    ⟨by rw [requestPass_ramp, hr], by rw [requestPass_resetState, hs], fun h => by rw [(rerunsOnly_requestPass (hp ▸ h)).pass, hp]⟩
  have hfree : ∀ i, (s.enterFree i).ramp = s.ramp ∧ (s.enterFree i).resetState = s.resetState
      ∧ (s.enterFree i).engine.pass = s.engine.pass := fun i => by
    rw [enterFree_eq]; exact ⟨rfl, rfl, rfl⟩
  have hfree' : ∀ i, (s.enterFree i).requestPass.ramp = s.ramp ∧ (s.enterFree i).requestPass.resetState = s.resetState
      ∧ (s.engine.pass ≠ .idle → (s.enterFree i).requestPass.engine.pass = s.engine.pass) := fun i =>
    hreq _ (hfree i).1 (hfree i).2.1 (hfree i).2.2
  cases c <;> simp only [perform]
  case openDraw p =>
    unfold performOpen
    dsimp only
    split
    · refine hreq _ ?_ ?_ ?_ <;> rw [updateFeeders_eq] <;> rfl
    · exact ⟨rfl, rfl, fun _ => rfl⟩
  case setTarget i target =>
    unfold performSetTarget
    dsimp only
    split
    · refine hreq _ ?_ ?_ ?_ <;> split <;> rfl
    · exact ⟨rfl, rfl, fun _ => rfl⟩
  case amendDraw =>
    unfold performAmend
    dsimp only
    split
    · exact ⟨rfl, rfl, fun _ => rfl⟩
    · exact hreq _ rfl rfl rfl
  case retireDraw i =>
    unfold performRetire
    dsimp only
    split
    · exact ⟨rfl, rfl, fun _ => rfl⟩
    · exact ⟨rfl, rfl, fun _ => rfl⟩
    · exact hfree' i
    · exact hfree' i
    · exact hfree' i
    · exact hreq _ rfl rfl rfl
    · exact hreq _ rfl rfl rfl
  case setCap => exact hreq _ rfl rfl rfl
  case setChannel ch enabled capacity =>
    unfold performSetChannel
    dsimp only
    split
    · exact ⟨rfl, rfl, fun _ => rfl⟩
    · split
      · exact hreq _ rfl rfl rfl
      · refine hreq _ ?_ ?_ ?_ <;> (rw [dropReply_eq]; split <;> rfl)
  case rearmChannel =>
    unfold performRearm
    dsimp only
    split
    · exact hreq _ rfl rfl rfl
    · exact ⟨rfl, rfl, fun _ => rfl⟩
  case readLine =>
    unfold performReadLine
    split <;> exact ⟨rfl, rfl, fun _ => rfl⟩
  case loadProfile =>
    unfold performLoadProfile
    split <;> exact ⟨rfl, rfl, fun _ => rfl⟩
  case resume =>
    unfold performResume
    split
    · exact hreq _ rfl rfl rfl
    · exact ⟨rfl, rfl, fun _ => rfl⟩
  case senseAttention =>
    unfold performSense
    split <;> exact ⟨rfl, rfl, fun _ => rfl⟩
  case setAttentionMask mask =>
    rw [performSetMask, setMask_eq]
    exact ⟨rfl, rfl, fun _ => rfl⟩
  all_goals exact ⟨rfl, rfl, fun _ => rfl⟩

/-! ## The expiries of a window (R47, R54) -/

theorem windowExpiry_window {s : State} {due : Bool} {d : Nat} (h : s.engine.pass = .window due) (hd : s.ramp.deferred = d + 1) :
    s.windowExpiry = (s.setRamp { s.ramp with deferred := d }).takeStep := by
  simp only [State.windowExpiry, h, hd]

theorem windowExpiry_none {s : State} (h : (∀ due, s.engine.pass ≠ .window due) ∨ s.ramp.deferred = 0) : s.windowExpiry = s := by
  unfold State.windowExpiry
  split
  next due d hp hd =>
    rcases h with h | h
    · exact absurd hp (h due)
    · rw [hd] at h; cases h
  · rfl

theorem takeStep_rerunsOnly {s : State} (h : s.engine.pass ≠ .idle) : RerunsOnly s s.takeStep := by
  rw [takeStep_eq]
  exact requestIf_rerunsOnly _ (stepped_engine s) h

/-- In a window an expiry taken leaves the pass state and the port, and one fewer deferred. -/
theorem windowExpiry_keeps {s : State} {due : Bool} (h : s.engine.pass = .window due) :
    s.windowExpiry.engine.pass = .window due ∧ s.windowExpiry.port = s.port ∧ s.windowExpiry.ramp.deferred = s.ramp.deferred - 1 := by
  cases hd : s.ramp.deferred with
  | zero => rw [windowExpiry_none (.inr hd)]; exact ⟨h, rfl, hd⟩
  | succ d =>
    obtain ⟨u, hu⟩ : ∃ u, u = s.setRamp { s.ramp with deferred := d } := ⟨_, rfl⟩
    have hpass : u.engine.pass = .window due := by rw [hu]; exact h
    rw [windowExpiry_window h hd, ← hu, (takeStep_rerunsOnly (by rw [hpass]; exact Pass.noConfusion)).pass, (restKept_takeStep u).port,
      (restKept_takeStep u).ramp, hpass, hu]
    exact ⟨rfl, rfl, rfl⟩

theorem windowExpiries_keeps (n : Nat) {s : State} {due : Bool} (h : s.engine.pass = .window due) :
    (State.windowExpiries n s).engine.pass = .window due ∧ (State.windowExpiries n s).port = s.port
      ∧ (State.windowExpiries n s).ramp.deferred = s.ramp.deferred - n := by
  induction n generalizing s with
  | zero => exact ⟨h, rfl, rfl⟩
  | succ n ih =>
    obtain ⟨h1, h2, h3⟩ := windowExpiry_keeps h
    obtain ⟨k1, k2, k3⟩ := ih h1
    exact ⟨k1, k2.trans h2, by rw [State.windowExpiries, k3, h3]; omega⟩

theorem windowExpiries_none (n : Nat) {s : State} (h : (∀ due, s.engine.pass ≠ .window due) ∨ s.ramp.deferred = 0) :
    State.windowExpiries n s = s := by
  induction n with
  | zero => rfl
  | succ n ih => rw [State.windowExpiries, windowExpiry_none h, ih]

theorem windowExpiries_add (m n : Nat) (s : State) : State.windowExpiries (m + n) s = State.windowExpiries n (State.windowExpiries m s) := by
  induction m generalizing s with
  | zero => rw [Nat.zero_add]; rfl
  | succ m ih => rw [Nat.add_right_comm, State.windowExpiries, State.windowExpiries, ih]

/-! ## The command of a window -/

theorem windowCommand_none {s : State} (h : s.engine.pass ≠ .window true ∨ s.port.waiting = none) : s.windowCommand = s := by
  unfold State.windowCommand
  split
  next c hp hw =>
    rcases h with h | h
    · exact absurd hp h
    · rw [hw] at h; cases h
  · rfl

theorem windowCommand_some {s : State} {c : Cmd} (h : s.engine.pass = .window true) (hw : s.port.waiting = some c) :
    s.windowCommand = (s.setEngine { s.engine with pass := .window false }).takeCmd c := by
  simp only [State.windowCommand, h, hw]

/-- Once the command of a window is taken, the window stays open with nothing more to take of that kind. -/
theorem windowCommand_keeps {s : State} {due : Bool} (h : s.engine.pass = .window due) :
    ∃ due', s.windowCommand.engine.pass = .window due' ∧ s.windowCommand.ramp = s.ramp
      ∧ (due' = false ∨ s.windowCommand.port.waiting = none) ∧ (due = true → s.windowCommand.port.waiting = none) := by
  cases hw : s.port.waiting with
  | none =>
    rw [windowCommand_none (.inr hw)]
    exact ⟨due, h, rfl, .inr hw, fun _ => hw⟩
  | some c =>
    cases due with
    | false =>
      rw [windowCommand_none (.inl (by rw [h]; simp))]
      exact ⟨false, h, rfl, .inl rfl, Bool.noConfusion⟩
    | true =>
      obtain ⟨hramp, -, hpass⟩ := perform_flying c (s.setEngine { s.engine with pass := .window false })
      rw [windowCommand_some h hw]
      exact ⟨false, hpass Pass.noConfusion, hramp, .inl rfl, fun _ => rfl⟩

/-! ## The end of a window -/

theorem closeWindow_other {s : State} (h : ∀ due, s.engine.pass ≠ .window due) : s.closeWindow = s := by
  unfold State.closeWindow
  split
  next due hp => exact absurd hp (h due)
  · rfl

theorem closeWindow_rerun {s : State} {due : Bool} (h : s.engine.pass = .window due) (hr : s.engine.rerun = true) :
    s.closeWindow = s.startPass := by
  simp only [State.closeWindow, h, hr, ↓reduceIte]

theorem closeWindow_idle {s : State} {due : Bool} (h : s.engine.pass = .window due) (hr : s.engine.rerun = false) (hw : s.port.waiting = none) :
    s.closeWindow = s.setEngine { s.engine with pass := .idle } := by
  simp only [State.closeWindow, h, hr, Bool.false_eq_true, ↓reduceIte, setEngine_port, hw]

theorem closeWindow_take {s : State} {due : Bool} {c : Cmd} (h : s.engine.pass = .window due) (hr : s.engine.rerun = false)
    (hw : s.port.waiting = some c) : s.closeWindow = (s.setEngine { s.engine with pass := .idle }).takeCmd c := by
  simp only [State.closeWindow, h, hr, Bool.false_eq_true, ↓reduceIte, setEngine_port, hw]

/-! ## The whole window -/

theorem runWindow_other {s : State} (h : ∀ due, s.engine.pass ≠ .window due) (k : Nat) : s.runWindow k = s := by
  unfold State.runWindow
  dsimp only
  rw [windowExpiries_none _ (.inl h), windowCommand_none (.inl (h true)), windowExpiries_none _ (.inl h), closeWindow_other h]

/-- The part of a window before its end. -/
def State.windowParts (s : State) (k : Nat) : State :=
  State.windowExpiries (s.ramp.deferred - min k s.ramp.deferred) (State.windowExpiries (min k s.ramp.deferred) s).windowCommand

/-- A window with nothing left to take but its end. -/
abbrev State.drained (s : State) : Prop := s.ramp.deferred = 0 ∧ ∃ due, s.engine.pass = .window due ∧ (due = false ∨ s.port.waiting = none)

theorem windowParts_drained {s : State} {due : Bool} (h : s.engine.pass = .window due) (k : Nat) :
    (s.windowParts k).drained ∧ (due = true → (s.windowParts k).port.waiting = none)
      ∧ s.runWindow k = (s.windowParts k).closeWindow := by
  obtain ⟨h1, -, h3⟩ := windowExpiries_keeps (min k s.ramp.deferred) h
  obtain ⟨due', k1, k2, k3, k4⟩ := windowCommand_keeps h1
  obtain ⟨l1, l2, l3⟩ := windowExpiries_keeps (s.ramp.deferred - min k s.ramp.deferred) k1
  have hzero : (s.windowParts k).ramp.deferred = 0 := by
    rw [State.windowParts, l3, k2, h3]
    omega
  refine ⟨⟨hzero, due', l1, k3.imp_right fun e => (congrArg Port.waiting l2).trans e⟩, fun e => (congrArg Port.waiting l2).trans (k4 e), ?_⟩
  have hsplit : ∀ x, State.windowExpiries s.ramp.deferred x
      = State.windowExpiries (min k s.ramp.deferred) (State.windowExpiries (s.ramp.deferred - min k s.ramp.deferred) x) := fun x => by
    rw [← windowExpiries_add]
    congr 1
    omega
  have hrest : State.windowExpiries s.ramp.deferred (State.windowExpiries (min k s.ramp.deferred) s).windowCommand = s.windowParts k :=
    (hsplit _).trans (windowExpiries_none _ (.inr hzero))
  rw [State.runWindow]
  exact congrArg State.closeWindow hrest

theorem runWindow_drained {s : State} (h : s.drained) (k : Nat) : s.runWindow k = s.closeWindow := by
  obtain ⟨hd, due, hp, hw⟩ := h
  unfold State.runWindow
  dsimp only
  rw [windowExpiries_none _ (.inr hd), windowCommand_none (hw.imp_left fun e => by rw [hp, e]; simp), windowExpiries_none _ (.inr hd)]

theorem publishIfRunning_window {s : State} {due : Bool} (h : s.engine.pass = .window due) : s.publishIfRunning = s :=
  publishIfRunning_other fun n hn => by rw [h] at hn; cases hn

/-! ## The rows of the window -/

theorem exec_publication {s : State} (hup : s.up) (part : WindowPart) : exec (.publication part) s = .next (match part with
    | .whole k => s.publishIfRunning.runWindow k
    | .opened => s.publishIfRunning
    | .takeCommand => s.windowCommand
    | .takeExpiry => s.windowExpiry) := by
  rw [exec, execPublication, whileRunning_up hup] <;> cases part <;> rfl

theorem RestKept.resetState {s t : State} (h : RestKept s t) : t.resetState = s.resetState := by
  have e := congrArg State.resetState h
  exact e

theorem publish_pass (s : State) (n : Snapshot) : (s.publish n).engine.pass = .window s.port.waiting.isSome := by
  have h := congrArg Engine.pass (publish_engine s n).1
  exact h

theorem publishIfRunning_running {s : State} {n : Snapshot} (h : s.engine.pass = .running n) : s.publishIfRunning = s.publish n := by
  unfold State.publishIfRunning
  rw [h]

theorem resetState_windowExpiry (s : State) : s.windowExpiry.resetState = s.resetState := by
  unfold State.windowExpiry
  split
  next d _ _ => exact (restKept_takeStep (s.setRamp { s.ramp with deferred := d })).resetState
  · rfl

theorem resetState_windowExpiries (n : Nat) (s : State) : (State.windowExpiries n s).resetState = s.resetState := by
  induction n generalizing s with
  | zero => rfl
  | succ n ih => rw [State.windowExpiries, ih, resetState_windowExpiry]

theorem resetState_windowCommand (s : State) : s.windowCommand.resetState = s.resetState := by
  unfold State.windowCommand
  split
  next c _ _ => exact (perform_flying c (s.setEngine { s.engine with pass := .window false })).2.1
  · rfl

theorem resetState_publishIfRunning (s : State) : s.publishIfRunning.resetState = s.resetState := by
  unfold State.publishIfRunning
  split
  next n _ => exact (restKept_publish s n).resetState
  · rfl

/-- One row of the window, as it acts while no reset lasts. -/
def State.publicationRow (s : State) (part : WindowPart) : State :=
  if s.resetState = .running then match part with
    | .whole k => s.publishIfRunning.runWindow k
    | .opened => s.publishIfRunning
    | .takeCommand => s.windowCommand
    | .takeExpiry => s.windowExpiry
  else s

theorem publicationRow_exec (s : State) (part : WindowPart) : exec (.publication part) s = .next (s.publicationRow part) := by
  unfold State.publicationRow
  rw [exec, execPublication, whileRunning] <;> cases part <;> rfl

theorem foldl_takeExpiry (n : Nat) {s : State} (hup : s.up) :
    (List.replicate n WindowPart.takeExpiry).foldl State.publicationRow s = State.windowExpiries n s := by
  induction n generalizing s with
  | zero => rfl
  | succ n ih =>
    have hrow : s.publicationRow .takeExpiry = s.windowExpiry := if_pos hup
    rw [List.replicate_succ, List.foldl_cons, hrow, ih ((resetState_windowExpiry s).trans hup)]
    rfl

/-- The rows of a publication taken in parts come to the whole of it. -/
theorem foldl_parts {s : State} (hup : s.up) (k : Nat) :
    ([WindowPart.opened] ++ List.replicate (min k s.ramp.deferred) WindowPart.takeExpiry ++ [WindowPart.takeCommand]
      ++ List.replicate (s.ramp.deferred - min k s.ramp.deferred) WindowPart.takeExpiry ++ [WindowPart.whole 0]).foldl State.publicationRow s
      = s.publishIfRunning.runWindow k := by
  obtain ⟨u, hu⟩ : ∃ u, u = s.publishIfRunning := ⟨_, rfl⟩
  have huup : u.up := by rw [hu]; exact (resetState_publishIfRunning s).trans hup
  have hramp : u.ramp = s.ramp := by
    rw [hu]
    unfold State.publishIfRunning
    split
    next n _ => exact (restKept_publish s n).ramp
    · rfl
  have hopened : s.publicationRow .opened = u := (if_pos hup).trans hu.symm
  have hmid := (resetState_windowExpiries (min k s.ramp.deferred) u).trans huup
  have hcommand : (State.windowExpiries (min k s.ramp.deferred) u).publicationRow .takeCommand
      = (State.windowExpiries (min k s.ramp.deferred) u).windowCommand := if_pos hmid
  have hcup := (resetState_windowCommand (State.windowExpiries (min k s.ramp.deferred) u)).trans hmid
  have hparts : State.windowExpiries (s.ramp.deferred - min k s.ramp.deferred) (State.windowExpiries (min k s.ramp.deferred) u).windowCommand
      = u.windowParts k := by rw [State.windowParts, hramp]
  have hlast : (u.windowParts k).publicationRow (.whole 0) = (u.windowParts k).publishIfRunning.runWindow 0 := by
    rw [← hparts]
    exact if_pos ((resetState_windowExpiries _ _).trans hcup)
  simp only [List.foldl_append, List.foldl_cons, List.foldl_nil, hopened, foldl_takeExpiry _ huup, hcommand, foldl_takeExpiry _ hcup,
    hparts, hlast, ← hu]
  by_cases hw : ∃ due, u.engine.pass = .window due
  · obtain ⟨due, hdue⟩ := hw
    obtain ⟨hdrained, -, hrun⟩ := windowParts_drained hdue k
    obtain ⟨due', hpass, -⟩ := hdrained.2
    rw [publishIfRunning_window hpass, runWindow_drained hdrained, hrun]
  · have hnot : ∀ due, u.engine.pass ≠ .window due := fun due h => hw ⟨due, h⟩
    have hsame : u.windowParts k = u := by
      rw [State.windowParts, windowExpiries_none _ (.inl hnot), windowCommand_none (.inl (hnot true)), windowExpiries_none _ (.inl hnot)]
    have hpub : u.publishIfRunning = u := by
      refine publishIfRunning_other fun n hn => ?_
      by_cases hrunning : ∃ m, s.engine.pass = .running m
      · obtain ⟨m, hm⟩ := hrunning
        rw [hu, publishIfRunning_running hm] at hnot
        exact hnot _ (publish_pass s m)
      · have hkept : u = s := hu.trans (publishIfRunning_other fun m hm => hrunning ⟨m, hm⟩)
        exact hrunning ⟨n, hkept ▸ hn⟩
    rw [hsame, hpub, runWindow_other hnot, runWindow_other hnot]

/-- Settles O37: the parts by `exec_publication`, the whole by `foldl_parts` and `windowParts_drained`. -/
theorem windowTakesWhatWaited : Obligations.WindowTakesWhatWaited := by
  intro s hup
  refine ⟨fun c u result h => ?take, fun c hp hw => ?command, fun h => ?nocommand, fun due d hp hd => ?expiry, fun h => ?noexpiry,
    fun k hidle => ?idle, fun k d parts hd hparts => ?parts, fun due k hp hw hd => ⟨fun hr => ?rerun, fun hr hnone => ?close, fun c hr hsome => ?late⟩,
    fun n k hn => ?whole⟩
  case take => rw [State.takeCmd, h]; rfl
  case command => exact (exec_publication hup _).trans (congrArg _ (windowCommand_some hp hw))
  case nocommand => exact (exec_publication hup _).trans (congrArg _ (windowCommand_none h))
  case expiry => exact (exec_publication hup _).trans (congrArg _ (windowExpiry_window hp hd))
  case noexpiry => exact (exec_publication hup _).trans (congrArg _ (windowExpiry_none h))
  case idle =>
    refine (exec_publication hup _).trans (congrArg _ ?_)
    have hpub : s.publishIfRunning = s := publishIfRunning_other fun n hn => by rw [hidle] at hn; cases hn
    have hrun : s.runWindow k = s := runWindow_other (fun due hp => by rw [hidle] at hp; cases hp) k
    exact (congrArg (State.runWindow · k) hpub).trans hrun
  case parts =>
    subst hd hparts
    refine ((exec_publication hup (.whole k)).trans (congrArg _ (foldl_parts hup k).symm)).trans ?_
    exact (foldl_exec publicationRow_exec _ s).symm
  case rerun =>
    have hrun := runWindow_drained (s := s) ⟨hd, due, hp, hw⟩ k
    refine (exec_publication hup _).trans (congrArg _ ?_)
    exact (congrArg (State.runWindow · k) (publishIfRunning_window hp)).trans (hrun.trans (closeWindow_rerun hp hr))
  case close =>
    have hrun := runWindow_drained (s := s) ⟨hd, due, hp, hw⟩ k
    refine (exec_publication hup _).trans (congrArg _ ?_)
    exact (congrArg (State.runWindow · k) (publishIfRunning_window hp)).trans (hrun.trans (closeWindow_idle hp hr hnone))
  case late =>
    have hrun := runWindow_drained (s := s) ⟨hd, due, hp, hw⟩ k
    refine (exec_publication hup _).trans (congrArg _ ?_)
    exact (congrArg (State.runWindow · k) (publishIfRunning_window hp)).trans (hrun.trans (closeWindow_take hp hr hsome))
  case whole =>
    obtain ⟨u, hu⟩ : ∃ u, u = s.publish n := ⟨_, rfl⟩
    have hpub : s.publishIfRunning = u := (publishIfRunning_running hn).trans hu.symm
    have hpass : u.engine.pass = .window s.port.waiting.isSome := by rw [hu]; exact publish_pass s n
    have hport : u.port = s.port := by rw [hu]; exact (restKept_publish s n).port
    obtain ⟨⟨hd, due, hp, hw⟩, htaken, hrun⟩ := windowParts_drained hpass k
    have hnone : (u.windowParts k).port.waiting = none := by
      cases hsome : s.port.waiting.isSome with
      | true => exact htaken hsome
      | false =>
        have hport' : ∀ m v, (State.windowExpiries m u).engine.pass = .window v → (State.windowExpiries m u).windowCommand = State.windowExpiries m u :=
          fun m v _ => windowCommand_none (.inr (by
            rw [(windowExpiries_keeps m hpass).2.1, hport]
            exact Option.isSome_eq_false_iff.mp hsome |> Option.isNone_iff_eq_none.mp))
        obtain ⟨h1, h2, -⟩ := windowExpiries_keeps (min k u.ramp.deferred) hpass
        obtain ⟨-, k2, -⟩ := windowExpiries_keeps (u.ramp.deferred - min k u.ramp.deferred) h1
        rw [State.windowParts, hport' _ _ h1, k2, h2, hport]
        exact Option.isSome_eq_false_iff.mp hsome |> Option.isNone_iff_eq_none.mp
    refine ⟨(u.windowParts k).closeWindow, (exec_publication hup _).trans (congrArg _ ?_), ?_⟩
    · exact (congrArg (State.runWindow · k) hpub).trans hrun
    · cases hr : (u.windowParts k).engine.rerun with
      | true =>
        rw [closeWindow_rerun hp hr]
        exact ⟨hd, rfl, hnone, .inr rfl⟩
      | false =>
        rw [closeWindow_idle hp hr hnone]
        exact ⟨hd, hr, hnone, .inl rfl⟩

end Sys2Proof.Machine

/-!
Engagement and release, capacity events, and the stale and lost timers (R19 to R22, R66 to R69, R134, R135).
-/

namespace Sys2Proof.Machine

/-! ## A record faulted for want of capacity (R20) -/

theorem faultedAt_faultRecord (s : State) (i : Slot) (x : FaultName) : FaultedAt s (s.faultRecord i x) i x := by
  have hchan : ∀ c, (s.faultRecord i x).channel c = (s.zeroShares i).channel c := fun c => by rw [faultRecord_eq]; rfl
  refine ⟨by rw [faultRecord_eq], fun f hf => ?_, fun c hc => ?_, by rw [faultRecord_eq], by rw [faultRecord_eq], by rw [faultRecord_eq]; rfl⟩
  · rw [hchan, zeroShares_mem s i _ ⟨f, hf, rfl⟩]
  · rw [hchan, zeroShares_other s i c hc]

/-! ## Engagement and release (R19, R22) -/

theorem exec_engageTimerExpiry {s : State} (hup : s.up) (i : Slot) : exec (.engageTimerExpiry i) s
    = .next (if (s.record i).state = .engaging ∧ (s.record i).engageTimer.isSome then (s.completeEngagement i).requestPass else s) := by
  rw [exec, execEngageTimerExpiry, whileRunning_up hup]

theorem exec_releaseTimerExpiry {s : State} (hup : s.up) (i : Slot) : exec (.releaseTimerExpiry i) s
    = .next (if (s.record i).state = .releasing ∧ (s.record i).releaseTimer.isSome then (s.enterFree i).requestPass else s) := by
  rw [exec, execReleaseTimerExpiry, whileRunning_up hup]

/-- R19: the state of an engagement completed. -/
def State.engagedAt (s : State) (i : Slot) : State :=
  ((s.setRecord i { s.record i with state := .active, present := (s.record i).floor, engageTimer := none }).reSplit i).occurMember
    srcArrival i.val

theorem completeEngagement_eq (s : State) (i : Slot) : s.completeEngagement i
    = if (s.record i).floor ≤ s.onlineSum i then s.engagedAt i else s.faultRecord i .engageFail := rfl

/-- Settles O39: each expiry by whether its timer runs, and the engagement by what the ONLINE feeders carry. -/
theorem engageAndReleaseTimersExpire : Obligations.EngageAndReleaseTimersExpire := by
  intro i s hup r online hr honline
  subst hr
  have honline' : s.onlineSum i = online := honline.symm
  refine ⟨fun h => ?_, fun hst hrun hle => ⟨s.engagedAt i, ?_, ?_, ?_, ?_, ?_⟩, fun hst hrun hlt => ⟨s.faultRecord i .engageFail, ?_, ?_⟩,
    fun h => ?_, fun hst hrun => ⟨s.enterFree i, ?_, ?_⟩⟩
  · rw [exec_engageTimerExpiry hup, if_neg fun h' => h ⟨h'.1, Option.isSome_iff_ne_none.mp h'.2⟩]
  · rw [exec_engageTimerExpiry hup, if_pos ⟨hst, Option.isSome_iff_ne_none.mpr hrun⟩, completeEngagement_eq, honline', if_pos hle]
  · rw [State.engagedAt, reSplit_eq]; rfl
  · rfl
  · rw [State.engagedAt, reSplit_eq]; rfl
  · rw [State.engagedAt, reSplit_eq]; rfl
  · rw [exec_engageTimerExpiry hup, if_pos ⟨hst, Option.isSome_iff_ne_none.mpr hrun⟩, completeEngagement_eq, honline', if_neg (by omega)]
  · exact faultedAt_faultRecord s i .engageFail
  · rw [exec_releaseTimerExpiry hup, if_neg fun h' => h ⟨h'.1, Option.isSome_iff_ne_none.mp h'.2⟩]
  · rw [exec_releaseTimerExpiry hup, if_pos ⟨hst, Option.isSome_iff_ne_none.mpr hrun⟩]
  · exact freed_enterFree s i

/-! ## Capacity events (R66 to R69) -/

theorem capacityEvent_unbound {s : State} {c : Chan} (h : (s.channel c).owner = none) : s.capacityEvent c = s := by
  simp only [State.capacityEvent, h]

theorem capacityEvent_bound {s : State} {c : Chan} {i : Slot} (h : (s.channel c).owner = some i) :
    s.capacityEvent c = if (s.record i).live then (s.absorbCapacity i).requestPass else s := by
  simp only [State.capacityEvent, h]

/-- R67: what a capacity event does to an ACTIVE record. -/
theorem absorbCapacity_active {s : State} {i : Slot} (h : (s.record i).state = .active) : s.absorbCapacity i =
    if s.carrying i < (s.record i).floor then s.faultRecord i .capacity
    else if s.carrying i < (s.record i).present then s.movePresent i (s.carrying i)
    else s.reSplit i := by
  simp only [State.absorbCapacity, h]

/-- R68: what a capacity event does to a RELEASING record. -/
theorem absorbCapacity_releasing {s : State} {i : Slot} (h : (s.record i).state = .releasing) : s.absorbCapacity i =
    if (s.record i).present = 0 then s
    else if s.carrying i < (s.record i).floor then s.endDescent i
    else if s.carrying i < (s.record i).present then s.movePresent i (s.carrying i)
    else s.reSplit i := by
  simp only [State.absorbCapacity, h]

/-- R69: every other record is left as it is. -/
theorem absorbCapacity_other {s : State} {i : Slot} (ha : (s.record i).state ≠ .active) (hr : (s.record i).state ≠ .releasing) :
    s.absorbCapacity i = s := by
  unfold State.absorbCapacity
  cases h : (s.record i).state <;> simp_all

/-- R73: the ARRIVAL of a present moved, by the state of the record. -/
theorem movePresent_arrival {s : State} {i : Slot} {p : Nat} (h : (s.record i).state = .active) (hlt : p < (s.record i).present) :
    s.movePresent i p = let u := (s.setRecord i { s.record i with present := p }).reSplit i
      if p = (s.record i).target then u.occurMember srcArrival i.val else u := by
  have hrec : ((s.setRecord i { s.record i with present := p }).reSplit i).record i = { s.record i with present := p } := by
    rw [reSplit_record, record_setRecord_self]
  rw [State.movePresent, State.noteArrival]
  dsimp only
  rw [hrec]
  refine if_congr ⟨fun h' => h'.2.1, fun h' => ⟨h, h', ?_⟩⟩ rfl rfl
  change (s.record i).present ≠ (s.record i).target
  omega

theorem movePresent_silent {s : State} {i : Slot} {p : Nat} (h : (s.record i).state ≠ .active) :
    s.movePresent i p = (s.setRecord i { s.record i with present := p }).reSplit i := by
  have hrec : ((s.setRecord i { s.record i with present := p }).reSplit i).record i = { s.record i with present := p } := by
    rw [reSplit_record, record_setRecord_self]
  rw [State.movePresent, State.noteArrival]
  dsimp only
  rw [hrec]
  exact if_neg fun h' => h h'.1

/-- Settles O41: the state of the record that owns the channel, then what its feeders carry. -/
theorem capacityEventsReachTheRecord : Obligations.CapacityEventsReachTheRecord := by
  intro s c
  refine ⟨capacityEvent_unbound, fun i r k hc hr hk => ?_⟩
  subst hr
  have hk' : s.carrying i = k := hk.symm
  have hlive : ∀ st, st ≠ RecordState.free → (s.record i).state = st → s.capacityEvent c = (s.absorbCapacity i).requestPass :=
    fun st hst h => by rw [capacityEvent_bound hc, if_pos ((live_iff _).mpr (h ▸ hst))]
  refine ⟨fun h => ?free, fun h hlt => ⟨s.faultRecord i .capacity, ?_, faultedAt_faultRecord s i .capacity⟩, fun h hfl hlt => ?cut,
    fun h hfl hle => ?split, fun h hp hlt => ⟨s.endDescent i, ?_, ?_, fun f hf => ?_, fun d hd => ?_, ?_⟩, fun h hp hfl hlt => ?cutLeaving,
    fun h hp hfl hle => ?splitLeaving, fun h => ?other⟩
  case free =>
    rw [capacityEvent_bound hc, if_neg]
    rw [live_iff]
    exact fun h' => h' h
  · rw [hlive _ (by decide) h, absorbCapacity_active h, hk', if_pos hlt]
  case cut => rw [hlive _ (by decide) h, absorbCapacity_active h, hk', if_neg (by omega), if_pos hlt, movePresent_arrival h hlt]
  case split => rw [hlive _ (by decide) h, absorbCapacity_active h, hk', if_neg (by omega), if_neg (by omega)]
  · rw [hlive _ (by decide) h, absorbCapacity_releasing h, hk', if_neg (by omega), if_pos hlt]
  · rw [endDescent_eq]
  · rw [endDescent_channel, zeroShares_mem s i _ ⟨f, hf, rfl⟩]
  · rw [endDescent_channel, zeroShares_other s i d hd]
  · rw [endDescent_eq]; rfl
  case cutLeaving =>
    rw [hlive _ (by decide) h, absorbCapacity_releasing h, hk', if_neg (by omega), if_neg (by omega), if_pos hlt,
      movePresent_silent (by rw [h]; exact RecordState.noConfusion)]
  case splitLeaving =>
    rw [hlive _ (by decide) h, absorbCapacity_releasing h, hk', if_neg (by omega), if_neg (by omega), if_neg (by omega)]
  case other =>
    rcases h with h | h | h | h | ⟨h, hp⟩
    · rw [hlive _ (by decide) h, absorbCapacity_other (by simp [h]) (by simp [h])]
    · rw [hlive _ (by decide) h, absorbCapacity_other (by simp [h]) (by simp [h])]
    · rw [hlive _ (by decide) h, absorbCapacity_other (by simp [h]) (by simp [h])]
    · rw [hlive _ (by decide) h, absorbCapacity_other (by simp [h]) (by simp [h])]
    · rw [hlive _ (by decide) h, absorbCapacity_releasing h, if_pos hp]

/-! ## The stale and lost timers (R134, R135) -/

theorem noteChannel_freeze (s : State) (c : Chan) {x : Channel} (t : Timing) (h : x.condition = .online) :
    s.noteChannel c x (x.freeze t) = s.occurMember srcChannel c.val := by
  have hn : channelNoted x (x.freeze t) = true := by simp [channelNoted, Channel.freeze, h]
  have hf : channelFaults x (x.freeze t) = [] := by cases htr : x.tracking <;> simp [channelFaults, Channel.freeze, htr]
  rw [State.noteChannel, hn, hf]
  rfl

theorem noteChannel_lose (s : State) (c : Chan) {x : Channel} (h : x.condition = .stale ∨ x.condition = .notReady) :
    s.noteChannel c x x.lose = (s.occurMember srcChannel c.val).capture .lost c.val := by
  have hne : x.condition ≠ .lost := by rcases h with h | h <;> rw [h] <;> exact Condition.noConfusion
  have hn : channelNoted x x.lose = true := by simp [channelNoted, Channel.lose, hne]
  have hf : channelFaults x x.lose = [.lost] := by simp [channelFaults, Channel.lose, Channel.cleared, hne]
  rw [State.noteChannel, hn, hf]
  rfl

/-- Settles O45: each expiry by whether its timer runs, and the loss by whether it is a capacity event. -/
theorem staleAndLostTimersExpire : Obligations.StaleAndLostTimersExpire := by
  intro c s hup x hx
  subst hx
  have hstale : exec (.staleTimerExpiry c) s = .next (if (s.channel c).condition = .online ∧ (s.channel c).staleTimer.isSome then
      s.changeChannel c ((s.channel c).freeze s.timing) true else s) := by
    rw [exec, execStaleTimerExpiry, whileRunning_up hup]
  have hlost : exec (.lostTimerExpiry c) s = .next (if ((s.channel c).condition = .stale ∨ (s.channel c).condition = .notReady)
      ∧ (s.channel c).lostTimer.isSome then s.changeChannel c (s.channel c).lose (s.channel c).lossIsEvent else s) := by
    rw [exec, execLostTimerExpiry, whileRunning_up hup]
  refine ⟨fun h hrun => ?_, fun h => ?_, fun h hrun u hu => ?_, fun h => ?_⟩
  · rw [hstale, if_pos ⟨h, Option.isSome_iff_ne_none.mpr hrun⟩, State.changeChannel, noteChannel_freeze _ _ _ h]
    rfl
  · rw [hstale, if_neg fun h' => h ⟨h'.1, Option.isSome_iff_ne_none.mp h'.2⟩]
  · have hset : s.setChannel c (s.channel c).lose = u := hu.symm
    rw [hlost, if_pos ⟨h, Option.isSome_iff_ne_none.mpr hrun⟩, State.changeChannel, hset, noteChannel_lose _ _ h]
    refine ⟨fun hst hev => ?_, fun hno => ?_⟩
    · rw [Channel.lossIsEvent, decide_eq_true ⟨hst, hev⟩]
      rfl
    · have hev : ¬((s.channel c).condition = .stale ∧ (0 < (s.channel c).frozen ∨ (s.channel c).clamp ≠ none)) := by
        rintro ⟨hst, hev⟩
        rcases hno with hn | ⟨h0, hclamp⟩
        · rw [hst] at hn; cases hn
        · rcases hev with h' | h'
          · omega
          · exact h' hclamp
      rw [Channel.lossIsEvent, decide_eq_false hev]
      rfl
  · rw [hlost, if_neg fun h' => h ⟨h'.1, Option.isSome_iff_ne_none.mp h'.2⟩]

end Sys2Proof.Machine

/-!
The split of a record's present over its feeders (R62 to R65, R74).
-/

namespace Sys2Proof.Machine

/-! ## Reading a placement -/

theorem placedOn_of_mem {ps : List (Chan × Nat)} (hn : (ps.map Prod.fst).Nodup) {p : Chan × Nat} (hp : p ∈ ps) : placedOn p.1 ps = p.2 := by
  unfold placedOn
  split
  next q hq =>
    have hmem := List.mem_of_find?_eq_some hq
    have heq : q.1 = p.1 := by simpa using List.find?_some hq
    rw [List.inj_on_of_nodup_map hn hmem hp heq]
  next hq => exact absurd (decide_eq_true rfl) (List.find?_eq_none.mp hq p hp)

theorem placedOn_append_right {ps qs : List (Chan × Nat)} {c : Chan} (h : ∀ p ∈ ps, p.1 ≠ c) : placedOn c (ps ++ qs) = placedOn c qs := by
  have hnone : ps.find? (fun p => decide (p.1 = c)) = none := List.find?_eq_none.mpr fun p hp => by simpa using h p hp
  simp only [placedOn, List.find?_append, hnone, Option.none_or]

theorem sum_placedOn {ps : List (Chan × Nat)} (hn : (ps.map Prod.fst).Nodup) :
    ((ps.map Prod.fst).map fun c => placedOn c ps).sum = (ps.map Prod.snd).sum := by
  rw [List.map_map]
  exact congrArg List.sum (List.map_congr_left fun p hp => placedOn_of_mem hn hp)

/-! ## The last round (R64) -/

theorem placeLeftover_fst (w r left : Nat) (os : List OpenFeeder) : (placeLeftover w r left os).map Prod.fst = os.map (·.channel) := by
  induction os generalizing left with
  | nil => simp [placeLeftover]
  | cons o os ih => cases left <;> simp [placeLeftover, ih]

theorem placeLeftover_sum (w r left : Nat) (os : List OpenFeeder) :
    ((placeLeftover w r left os).map Prod.snd).sum = (os.map (offer w r)).sum + min left os.length := by
  induction os generalizing left with
  | nil => simp [placeLeftover]
  | cons o os ih =>
    cases left with
    | zero => simp [placeLeftover, ih]
    | succ left =>
      simp only [placeLeftover, List.map_cons, List.sum_cons, ih, List.length_cons]
      omega

/-- R64: what one feeder of the last round gets, by how many stand before it. -/
theorem placeLeftover_at (w r left : Nat) (before : List OpenFeeder) (o : OpenFeeder) (after : List OpenFeeder) :
    (o.channel, offer w r o + if before.length < left then 1 else 0) ∈ placeLeftover w r left (before ++ o :: after) := by
  induction before generalizing left with
  | nil => cases left <;> simp [placeLeftover]
  | cons b bs ih =>
    cases left with
    | zero => simpa [placeLeftover] using .inr (ih 0)
    | succ left =>
      have h := ih left
      simp only [List.cons_append, placeLeftover, List.length_cons, Nat.add_lt_add_iff_right]
      exact List.mem_cons_of_mem _ h

/-! ## The rounds (R63, R64) -/

theorem weightSum_pos {os : List OpenFeeder} (hw : ∀ o ∈ os, 1 ≤ o.weight) (h : os ≠ []) : 0 < weightSum os := by
  obtain ⟨o, os, rfl⟩ := List.exists_cons_of_ne_nil h
  have := hw o (by simp)
  simp only [weightSum, List.map_cons, List.sum_cons]
  omega

/-- R63, R64: what is offered in a round falls short of the amount by at most one unit for each feeder. -/
theorem sum_offers {os : List OpenFeeder} (hw : ∀ o ∈ os, 1 ≤ o.weight) (r : Nat) :
    (os.map (offer (weightSum os) r)).sum ≤ r ∧ (os ≠ [] → r ≤ (os.map (offer (weightSum os) r)).sum + os.length) := by
  by_cases h : os = []
  · subst h; simp
  · have := sum_parts os (·.weight) r (weightSum os) rfl (weightSum_pos hw h)
    exact ⟨this.1, fun _ => this.2⟩

/-- R63: the feeders a round fixes at their usable capacity, and those it leaves. -/
abbrev fullOf (os : List OpenFeeder) (r : Nat) : List OpenFeeder := os.filter fun o => decide (o.capacity ≤ offer (weightSum os) r o)
abbrev restOf (os : List OpenFeeder) (r : Nat) : List OpenFeeder := os.filter fun o => !decide (o.capacity ≤ offer (weightSum os) r o)

theorem placeRounds_last {os : List OpenFeeder} {r : Nat} (h : fullOf os r = []) (fuel : Nat) :
    placeRounds (fuel + 1) os r = placeLeftover (weightSum os) r (r - (os.map (offer (weightSum os) r)).sum) os := by
  rw [placeRounds]
  exact if_pos (by rw [List.isEmpty_iff]; exact h)

theorem placeRounds_next {os : List OpenFeeder} {r : Nat} (h : fullOf os r ≠ []) (fuel : Nat) :
    placeRounds (fuel + 1) os r = (fullOf os r).map (fun o => (o.channel, o.capacity))
      ++ placeRounds fuel (restOf os r) (r - ((fullOf os r).map (·.capacity)).sum) := by
  rw [placeRounds]
  exact if_neg (by rw [List.isEmpty_iff]; exact h)

theorem sum_full_rest (os : List OpenFeeder) (r : Nat) (g : OpenFeeder → Nat) :
    ((fullOf os r).map g).sum + ((restOf os r).map g).sum = (os.map g).sum := by
  simp only [fullOf, restOf]
  generalize weightSum os = w
  induction os with
  | nil => rfl
  | cons o os ih =>
    by_cases h : o.capacity ≤ offer w r o
    · simp only [List.filter_cons, h, decide_true, Bool.not_true, ↓reduceIte, Bool.false_eq_true, List.map_cons, List.sum_cons]
      omega
    · simp only [List.filter_cons, h, decide_false, Bool.not_false, ↓reduceIte, Bool.false_eq_true, List.map_cons, List.sum_cons]
      omega

theorem length_full_rest (os : List OpenFeeder) (r : Nat) : (fullOf os r).length + (restOf os r).length = os.length := by
  have := sum_full_rest os r fun _ => 1
  simpa using this

theorem sum_full_le {os : List OpenFeeder} (hw : ∀ o ∈ os, 1 ≤ o.weight) (r : Nat) : ((fullOf os r).map (·.capacity)).sum ≤ r := by
  calc ((fullOf os r).map (·.capacity)).sum
      ≤ ((fullOf os r).map (offer (weightSum os) r)).sum :=
        List.sum_le_sum fun o ho => of_decide_eq_true (List.mem_filter.mp ho).2
    _ ≤ (os.map (offer (weightSum os) r)).sum := by
        have := sum_full_rest os r (offer (weightSum os) r)
        omega
    _ ≤ r := (sum_offers hw r).1

/-- R62 to R64: the rounds place all of an amount that the open feeders can carry, each feeder once and under its usable capacity. -/
theorem placeRounds_spec (fuel : Nat) : ∀ (os : List OpenFeeder) (r : Nat), (os.map (·.channel)).Nodup → (∀ o ∈ os, 1 ≤ o.weight) →
    r ≤ (os.map (·.capacity)).sum → os.length < fuel →
    ((placeRounds fuel os r).map Prod.fst).Perm (os.map (·.channel)) ∧ ((placeRounds fuel os r).map Prod.snd).sum = r
      ∧ ∀ o ∈ os, placedOn o.channel (placeRounds fuel os r) ≤ o.capacity := by
  induction fuel with
  | zero => intro os r _ _ _ h; omega
  | succ fuel ih =>
    intro os r hn hw hr hf
    by_cases hfull : fullOf os r = []
    · rw [placeRounds_last hfull]
      have hlt : ∀ o ∈ os, offer (weightSum os) r o < o.capacity := fun o ho =>
        Nat.lt_of_not_le fun h => List.filter_eq_nil_iff.mp hfull o ho (decide_eq_true h)
      obtain ⟨hle, hge⟩ := sum_offers hw r
      refine ⟨by rw [placeLeftover_fst], ?_, fun o ho => ?_⟩
      · rw [placeLeftover_sum]
        by_cases hnil : os = []
        · subst hnil
          simp at hr ⊢
          omega
        · have := hge hnil
          omega
      · obtain ⟨before, after, hsplit⟩ := List.append_of_mem ho
        have hat := placeLeftover_at (weightSum os) r (r - (os.map (offer (weightSum os) r)).sum) before o after
        rw [← hsplit] at hat
        have := placedOn_of_mem (by rw [placeLeftover_fst]; exact hn) hat
        have hcap := hlt o ho
        rw [this]
        dsimp only
        split <;> omega
    · have hpos : 0 < (fullOf os r).length := List.length_pos_iff.mpr hfull
      have hlen := length_full_rest os r
      have hcap := sum_full_rest os r (·.capacity)
      have hsum := sum_full_le hw r
      have hsub : ∀ o ∈ restOf os r, o ∈ os := fun o ho => (List.mem_filter.mp ho).1
      have hrestn : ((restOf os r).map (·.channel)).Nodup := hn.sublist (List.filter_sublist.map _)
      have hfulln : ((fullOf os r).map (·.channel)).Nodup := hn.sublist (List.filter_sublist.map _)
      obtain ⟨hperm, hplaced, hbound⟩ := ih (restOf os r) (r - ((fullOf os r).map (·.capacity)).sum) hrestn (fun o ho => hw o (hsub o ho))
        (by omega) (by omega)
      have hall : ((placeRounds (fuel + 1) os r).map Prod.fst).Perm (os.map (·.channel)) := by
        rw [placeRounds_next hfull, List.map_append, List.map_map]
        refine (List.Perm.append_left _ hperm).trans ?_
        change ((fullOf os r).map (·.channel) ++ (restOf os r).map (·.channel)).Perm _
        rw [← List.map_append]
        exact (List.filter_append_perm _ os).map _
      refine ⟨hall, ?_, fun o ho => ?_⟩
      · rw [placeRounds_next hfull, List.map_append, List.sum_append, hplaced, List.map_map]
        exact Nat.add_sub_cancel' hsum
      · by_cases hof : o ∈ fullOf os r
        · have hmem : (o.channel, o.capacity) ∈ placeRounds (fuel + 1) os r := by
            rw [placeRounds_next hfull]
            exact List.mem_append_left _ (List.mem_map.mpr ⟨o, hof, rfl⟩)
          exact (placedOn_of_mem (hall.nodup_iff.mpr hn) hmem).le
        · have hor : o ∈ restOf os r := List.mem_filter.mpr ⟨ho, by
            have : ¬(decide (o.capacity ≤ offer (weightSum os) r o) = true) := fun h => hof (List.mem_filter.mpr ⟨ho, h⟩)
            simpa using this⟩
          rw [placeRounds_next hfull, placedOn_append_right fun p hp => ?_]
          · exact hbound o hor
          · obtain ⟨q, hq, rfl⟩ := List.mem_map.mp hp
            intro hc
            exact hof (List.inj_on_of_nodup_map hn (List.mem_filter.mp hq).1 ho hc ▸ hq)

/-- The sum over the open feeders of what is placed on each is the amount. -/
theorem sum_placed {fuel : Nat} {os : List OpenFeeder} {r : Nat} (hn : (os.map (·.channel)).Nodup) (hw : ∀ o ∈ os, 1 ≤ o.weight)
    (hr : r ≤ (os.map (·.capacity)).sum) (hf : os.length < fuel) :
    (os.map fun o => placedOn o.channel (placeRounds fuel os r)).sum = r := by
  obtain ⟨hperm, hsum, -⟩ := placeRounds_spec fuel os r hn hw hr hf
  have h := (hperm.map fun c => placedOn c (placeRounds fuel os r)).sum_eq
  rw [sum_placedOn (hperm.nodup_iff.mpr hn), hsum, List.map_map] at h
  exact h.symm

/-! ## The shares after a split (R62, R65, R74) -/

/-- The feeders of a list as open feeders. -/
def State.openOf (s : State) (fs : List Feeder) : List OpenFeeder :=
  fs.map fun f => { channel := f.channel, weight := f.weight, capacity := (s.channel f.channel).usable }

/-- The ONLINE feeders of a list. -/
abbrev State.onlineOf (s : State) (fs : List Feeder) : List Feeder :=
  fs.filter fun f => decide ((s.channel f.channel).condition = .online)

theorem openFeeders_eq (s : State) (fs : List Feeder) : s.openFeeders fs = s.openOf (s.onlineOf fs) := rfl

theorem openOf_channels (s : State) (fs : List Feeder) : (s.openOf fs).map (·.channel) = fs.map fun f => f.channel := by
  rw [State.openOf, List.map_map]; rfl

theorem usable_split (x : Channel) : x.usable = x.frozenShare + x.onlineCapacity := by
  unfold Channel.frozenShare Channel.onlineCapacity Channel.usable
  cases x.condition <;> simp

theorem sum_onlineOf (s : State) (fs : List Feeder) :
    s.feederSum fs Channel.onlineCapacity = ((s.onlineOf fs).map fun f => (s.channel f.channel).usable).sum := by
  induction fs with
  | nil => rfl
  | cons f fs ih =>
    rw [feederSum_cons, ih]
    by_cases h : (s.channel f.channel).condition = .online
    · simp [State.onlineOf, h, Channel.onlineCapacity]
    · simp [State.onlineOf, h, Channel.onlineCapacity]

theorem carrying_split (s : State) (i : Slot) :
    s.carrying i = s.frozenSum i + ((s.onlineOf (s.record i).feeders).map fun f => (s.channel f.channel).usable).sum := by
  rw [← sum_onlineOf, State.carrying, State.frozenSum]
  simp only [State.feederSum, ← List.sum_map_add]
  exact congrArg List.sum (List.map_congr_left fun f _ => usable_split _)

section
variable {s : State} {i : Slot} (hn : ((s.record i).feeders.map fun f => f.channel).Nodup)
include hn

theorem reSplit_share {f : Feeder} (hf : f ∈ (s.record i).feeders) :
    ((s.reSplit i).channel f.channel).share = match (s.channel f.channel).condition with
      | .stale => (s.channel f.channel).frozen
      | .online => placedOn f.channel (s.placement i)
      | _ => 0 := by
  rw [reSplit_mem s i hn f hf]
  cases h : (s.channel f.channel).condition <;> simp only [Channel.resplit, h]

theorem reSplit_rest {f : Feeder} (hf : f ∈ (s.record i).feeders) :
    (s.reSplit i).channel f.channel = { s.channel f.channel with share := ((s.reSplit i).channel f.channel).share } := by
  rw [reSplit_mem s i hn f hf]
  exact resplit_share _ _ _

variable (hw : ∀ f ∈ (s.record i).feeders, 1 ≤ f.weight)
include hw

/-- What a split of a record needs of its open feeders. -/
theorem open_conditions (hk : (s.record i).present ≤ s.carrying i) :
    ((s.openFeeders (s.record i).feeders).map (·.channel)).Nodup ∧ (∀ o ∈ s.openFeeders (s.record i).feeders, 1 ≤ o.weight)
      ∧ (s.record i).present - s.frozenSum i ≤ ((s.openFeeders (s.record i).feeders).map (·.capacity)).sum
      ∧ (s.openFeeders (s.record i).feeders).length < (s.record i).feeders.length + 1 := by
  rw [openFeeders_eq]
  refine ⟨?_, fun o ho => ?_, ?_, ?_⟩
  · rw [openOf_channels]
    exact hn.sublist (List.filter_sublist.map _)
  · obtain ⟨f, hf, rfl⟩ := List.mem_map.mp ho
    exact hw f (List.mem_filter.mp hf).1
  · have h := carrying_split s i
    rw [State.openOf, List.map_map]
    change _ ≤ ((s.onlineOf (s.record i).feeders).map fun f => (s.channel f.channel).usable).sum
    omega
  · rw [State.openOf, List.length_map]
    exact Nat.lt_succ_of_le (List.length_filter_le _ _)

theorem sum_placed_online (hk : (s.record i).present ≤ s.carrying i) :
    ((s.onlineOf (s.record i).feeders).map fun f => placedOn f.channel (s.placement i)).sum = (s.record i).present - s.frozenSum i := by
  obtain ⟨h1, h2, h3, h4⟩ := open_conditions hn hw hk
  have h := sum_placed h1 h2 h3 h4
  rw [openFeeders_eq, State.openOf, List.map_map] at h
  exact h

/-- R62, R74: the shares after a split sum to the present. -/
theorem reSplit_sum (hfrozen : s.frozenSum i ≤ (s.record i).present) (hk : (s.record i).present ≤ s.carrying i) :
    (s.reSplit i).feederSum (s.record i).feeders (fun x => x.share) = (s.record i).present := by
  have hterms : ∀ f ∈ (s.record i).feeders, ((s.reSplit i).channel f.channel).share = (s.channel f.channel).frozenShare
      + if (s.channel f.channel).condition = .online then placedOn f.channel (s.placement i) else 0 := fun f hf => by
    rw [reSplit_share hn hf, Channel.frozenShare]
    cases (s.channel f.channel).condition <;> simp
  have honline : ∀ fs : List Feeder, (fs.map fun f => if (s.channel f.channel).condition = .online then placedOn f.channel (s.placement i) else 0).sum
      = ((s.onlineOf fs).map fun f => placedOn f.channel (s.placement i)).sum := by
    intro fs
    induction fs with
    | nil => rfl
    | cons f fs ih =>
      by_cases h : (s.channel f.channel).condition = .online <;> simp [State.onlineOf, h] <;> exact ih
  have hsum := sum_placed_online hn hw hk
  rw [State.feederSum, List.map_congr_left hterms, List.sum_map_add, honline, hsum]
  change s.frozenSum i + _ = _
  omega

theorem placed_le_usable (hk : (s.record i).present ≤ s.carrying i) {f : Feeder} (hf : f ∈ (s.record i).feeders)
    (hon : (s.channel f.channel).condition = .online) : placedOn f.channel (s.placement i) ≤ (s.channel f.channel).usable := by
  obtain ⟨h1, h2, h3, h4⟩ := open_conditions hn hw hk
  exact (placeRounds_spec _ _ _ h1 h2 h3 h4).2.2 _
    (List.mem_map.mpr ⟨f, List.mem_filter.mpr ⟨hf, by simpa using hon⟩, rfl⟩)

end

/-! ## Round by round (R63, R64) -/

theorem openOf_full (s : State) (os : List Feeder) (r : Nat) : fullOf (s.openOf os) r
    = s.openOf (os.filter fun f => decide ((s.channel f.channel).usable ≤ r * f.weight / (os.map fun f => f.weight).sum)) := by
  have hw : weightSum (s.openOf os) = (os.map fun f => f.weight).sum := by rw [weightSum, State.openOf, List.map_map]; rfl
  rw [fullOf, hw, State.openOf, List.filter_map]
  rfl

theorem openOf_rest (s : State) (os : List Feeder) (r : Nat) : restOf (s.openOf os) r
    = s.openOf (os.filter fun f => decide (r * f.weight / (os.map fun f => f.weight).sum < (s.channel f.channel).usable)) := by
  have hw : weightSum (s.openOf os) = (os.map fun f => f.weight).sum := by rw [weightSum, State.openOf, List.map_map]; rfl
  rw [restOf, hw, State.openOf, List.filter_map]
  refine congrArg s.openOf (List.filter_congr fun f _ => ?_)
  exact Bool.eq_iff_iff.mpr ((Bool.not_eq_true' _ ▸ decide_eq_false_iff_not).trans (Nat.not_le.trans decide_eq_true_iff.symm))

/-- R63: what the rounds of a record's split that are still to come place is what its whole placement places. -/
theorem opensRound_placement {s : State} {i : Slot} (hn : ((s.record i).feeders.map fun f => f.channel).Nodup) {os : List Feeder} {r : Nat}
    (h : OpensRound s i os r) : os.Sublist (s.onlineOf (s.record i).feeders) ∧ ∃ fuel, os.length < fuel
      ∧ ∀ f ∈ os, placedOn f.channel (s.placement i) = placedOn f.channel (placeRounds fuel (s.openOf os) r) := by
  induction h with
  | first =>
    refine ⟨List.Sublist.refl _, (s.record i).feeders.length + 1, ?_, fun f _ => rfl⟩
    have := List.length_filter_le (fun f : Feeder => decide ((s.channel f.channel).condition = .online)) (s.record i).feeders
    omega
  | next os full rest r w _ hw hfull hne hrest ih =>
    obtain ⟨hsub, fuel, hlen, hplaced⟩ := ih
    have hrsub : rest.Sublist os := hrest ▸ List.filter_sublist
    have hosn : (os.map fun f => f.channel).Nodup := hn.sublist ((hsub.trans List.filter_sublist).map _)
    obtain ⟨fuel, rfl⟩ : ∃ k, fuel = k + 1 := ⟨fuel - 1, by omega⟩
    have hfull' : fullOf (s.openOf os) r = s.openOf full := by rw [openOf_full, hfull, hw]
    have hrest' : restOf (s.openOf os) r = s.openOf rest := by rw [openOf_rest, hrest, hw]
    have hne' : fullOf (s.openOf os) r ≠ [] := by
      rw [hfull', State.openOf]
      simpa using hne
    have hdisjoint : ∀ f ∈ full, f ∉ rest := fun f hf hr => by
      rw [hfull] at hf
      rw [hrest] at hr
      have h1 := of_decide_eq_true (List.mem_filter.mp hf).2
      have h2 := of_decide_eq_true (List.mem_filter.mp hr).2
      omega
    refine ⟨hrsub.trans hsub, fuel, ?_, fun f hf => ?_⟩
    · have h1 := length_full_rest (s.openOf os) r
      have h2 : 0 < (fullOf (s.openOf os) r).length := List.length_pos_iff.mpr hne'
      have h3 : (s.openOf rest).length = rest.length := List.length_map _
      have h4 : (s.openOf os).length = os.length := List.length_map _
      rw [hrest'] at h1
      omega
    · rw [hplaced f (hrsub.subset hf), placeRounds_next hne', hrest', placedOn_append_right fun p hp hc => ?_, hfull']
      · rw [show ((s.openOf full).map (·.capacity)) = full.map fun f => (s.channel f.channel).usable by rw [State.openOf, List.map_map]; rfl]
      · rw [hfull', State.openOf, List.map_map] at hp
        obtain ⟨g, hg, rfl⟩ := List.mem_map.mp hp
        have hgos : g ∈ os := by rw [hfull] at hg; exact (List.mem_filter.mp hg).1
        exact hdisjoint g hg (List.inj_on_of_nodup_map hosn hgos (hrsub.subset hf) hc ▸ hf)

/-- Settles O40: the sum and the bounds by `placeRounds_spec`, each round by `opensRound_placement`. -/
theorem splitPlacesPresent : Obligations.SplitPlacesPresent := by
  intro s t i fs present frozen ht hfs hp hn hw hfrozen hle hk
  subst hfs hp ht
  have hfrozen' : s.frozenSum i = frozen := hfrozen.symm
  have hk' : (s.record i).present ≤ s.carrying i := hk
  refine ⟨reSplit_sum hn hw (by omega) hk', fun f hf => ⟨?_, fun h => ?_, fun h => ?_, fun h1 h2 => ?_⟩, fun c hc => reSplit_other s i c hc,
    by rw [reSplit_eq], fun os r w hopens hweights => ?rounds⟩
  · rw [reSplit_rest hn hf]
  · rw [reSplit_share hn hf, h]
  · rw [reSplit_share hn hf, h]
    exact placed_le_usable hn hw hk' hf h
  · rw [reSplit_share hn hf]
    cases h : (s.channel f.channel).condition <;> simp_all
  case rounds =>
    obtain ⟨hsub, fuel, hfuel, hplaced⟩ := opensRound_placement hn hopens
    obtain ⟨fuel, rfl⟩ : ∃ k, fuel = k + 1 := ⟨fuel - 1, by omega⟩
    have hosn : (os.map fun f => f.channel).Nodup := hn.sublist ((hsub.trans List.filter_sublist).map _)
    have hopenn : ((s.openOf os).map (·.channel)).Nodup := by rw [openOf_channels]; exact hosn
    have hshare : ∀ f ∈ os, ((s.reSplit i).channel f.channel).share = placedOn f.channel (placeRounds (fuel + 1) (s.openOf os) r) :=
      fun f hf => by
        have hmem := List.mem_filter.mp (hsub.subset hf)
        rw [reSplit_share hn hmem.1, of_decide_eq_true hmem.2, ← hplaced f hf]
    have hweight : weightSum (s.openOf os) = w := by rw [hweights, weightSum, State.openOf, List.map_map]; rfl
    refine ⟨fun f hf hfull => ?_, fun hnone before after f hsplit => ?_⟩
    · have hof : (⟨f.channel, f.weight, (s.channel f.channel).usable⟩ : OpenFeeder) ∈ fullOf (s.openOf os) r :=
        List.mem_filter.mpr ⟨List.mem_map.mpr ⟨f, hf, rfl⟩, decide_eq_true (by rw [hweight]; exact hfull)⟩
      have hne : fullOf (s.openOf os) r ≠ [] := List.ne_nil_of_mem hof
      have hfirst : ((fullOf (s.openOf os) r).map fun o => (o.channel, o.capacity)).find? (fun p => decide (p.1 = f.channel)) ≠ none := fun h =>
        List.find?_eq_none.mp h (f.channel, (s.channel f.channel).usable) (List.mem_map.mpr ⟨_, hof, rfl⟩) (decide_eq_true rfl)
      have hleft : placedOn f.channel (placeRounds (fuel + 1) (s.openOf os) r)
          = placedOn f.channel ((fullOf (s.openOf os) r).map fun o => (o.channel, o.capacity)) := by
        rw [placeRounds_next hne]
        simp only [placedOn, List.find?_append]
        obtain ⟨p, hp⟩ := Option.ne_none_iff_exists'.mp hfirst
        rw [hp]
        rfl
      rw [hshare f hf, hleft]
      refine placedOn_of_mem (p := (f.channel, (s.channel f.channel).usable)) ?_ (List.mem_map.mpr ⟨_, hof, rfl⟩)
      rw [List.map_map]
      exact hopenn.sublist (List.filter_sublist.map _)
    · have hnil : fullOf (s.openOf os) r = [] := by
        rw [openOf_full, ← hweights]
        have : (os.filter fun f => decide ((s.channel f.channel).usable ≤ r * f.weight / w)) = [] :=
          List.filter_eq_nil_iff.mpr fun g hg => by simpa using hnone g hg
        rw [this]
        rfl
      have hopen : s.openOf os = s.openOf before ++ ⟨f.channel, f.weight, (s.channel f.channel).usable⟩ :: s.openOf after := by
        rw [hsplit, State.openOf, List.map_append, List.map_cons]
        rfl
      have hat := placeLeftover_at w r (r - ((s.openOf os).map (offer w r)).sum) (s.openOf before)
        ⟨f.channel, f.weight, (s.channel f.channel).usable⟩ (s.openOf after)
      have hlen : (s.openOf before).length = before.length := by rw [State.openOf, List.length_map]
      have hoffers : ((s.openOf os).map (offer w r)).sum = (os.map fun g => r * g.weight / w).sum := by
        rw [State.openOf, List.map_map]; rfl
      rw [← hopen, hlen, hoffers] at hat
      rw [hshare f (by rw [hsplit]; simp), placeRounds_last hnil, hweight, hoffers]
      exact placedOn_of_mem (by rw [placeLeftover_fst]; exact hopenn) hat

end Sys2Proof.Machine

/-!
The Ride-Through Sequencer (R97 to R115): frames and timers.
-/

namespace Sys2Proof.Machine

/-! ## Overtaking and the entries into a ride (R101, R111, R153) -/

/-- R153: the port after an entry into RIDING or BLIND. -/
def Port.overtaken (p : Port) : Port :=
  if p.waiting = none then p else { p with phase := .result, waiting := none, result := overtakenBytes, readPos := 0 }

theorem overtake_eq (s : State) : s.overtake = s.setPort s.port.overtaken := by
  unfold State.overtake Port.overtaken
  cases h : s.port.waiting with
  | none => simp
  | some c => simp

/-- R99 to R101: the Sequencer in RIDING under a profile, for a frame's voltage. -/
def Sequencer.ridden (x : Sequencer) (q : ProfileNo) (p : Profile) (voltage : Nat) : Sequencer :=
  { x with state := .riding, inUse := some q, candidate := none, count := 0, er := x.i0 * keeps p voltage / 1000, holdTimer := none,
           restoreTimer := none }

theorem enterRiding_eq (s : State) (q : ProfileNo) (voltage : Nat) : s.enterRiding q voltage
    = ((s.setSeq (s.seq.ridden q (s.profile q) voltage)).occur srcRide).setPort s.port.overtaken := by
  rw [State.enterRiding, overtake_eq]
  rfl

theorem overtaken_none {p : Port} (h : p.waiting = none) : p.overtaken = p := by rw [Port.overtaken, if_pos h]

theorem overtaken_some {p : Port} (h : p.waiting ≠ none) :
    p.overtaken = { p with phase := .result, waiting := none, result := [0xC0, 0x00], readPos := 0 } := by
  rw [Port.overtaken, if_neg h]; rfl

/-- R101, R153: what an entry into RIDING or BLIND does beside the Sequencer and the draw records. -/
theorem rideBegins_of {s t : State} (hport : t.port = s.port.overtaken) (hatt : t.attention = (s.occur srcRide).attention)
    (h : { t with table := s.table, seq := s.seq, attention := s.attention, port := s.port } = s) : RideBegins s t :=
  ⟨hatt, fun hw => by rw [hport, overtaken_none hw], fun hw => by rw [hport, overtaken_some hw], h⟩

/-- R101: an entry into RIDING from a state that differs in the Sequencer's fields. -/
theorem rideBegins_enterRiding (s : State) (x : Sequencer) (q : ProfileNo) (voltage : Nat) :
    RideBegins s ((s.setSeq x).enterRiding q voltage) := by
  rw [enterRiding_eq]
  exact rideBegins_of rfl rfl rfl

theorem enterRiding_table (s : State) (x : Sequencer) (q : ProfileNo) (voltage : Nat) :
    ((s.setSeq x).enterRiding q voltage).table = s.table := by
  rw [enterRiding_eq]; rfl

theorem enterRiding_seq (s : State) (q : ProfileNo) (voltage : Nat) :
    (s.enterRiding q voltage).seq = s.seq.ridden q (s.profile q) voltage := by
  rw [enterRiding_eq]; rfl

/-! ## A frame in NORMAL and CONFIRMING (R97 to R101) -/

theorem hold_eq (r : DrawRecord) : r.hold = { r with held := heldAfter r } := by
  unfold DrawRecord.hold heldAfter
  by_cases h : r.state = .free
  · rw [if_pos h, if_neg (by simp [DrawRecord.live, h])]
  · have hlive : r.live = true := (live_iff r).mpr h
    by_cases hp : r.present = 0 <;> simp [hlive, h, hp, Nat.pos_iff_ne_zero]

theorem rideReference_eq (s : State) : s.rideReference = s.current := by
  unfold State.rideReference State.current State.totalPresent sumOver
  rfl

/-- R99: the snapshot taken as a ride begins. -/
theorem rideSnapshot_eq (s : State) :
    s.rideSnapshot = (s.setSeq { s.seq with i0 := s.current }).mapRecords DrawRecord.hold := by
  rw [State.rideSnapshot, rideReference_eq]

theorem confirmRun_below {s : State} {c : ProfileNo} {n : Nat} (h : n < (s.profile c).confirm) (voltage : Nat) : s.confirmRun c n voltage
    = (s.setSeq { s.seq with state := .confirming, candidate := some c, count := n }, .none) := by
  rw [State.confirmRun, if_neg (by omega)]

theorem confirmRun_reached {s : State} {c : ProfileNo} {n : Nat} (h : (s.profile c).confirm ≤ n) (voltage : Nat) :
    s.confirmRun c n voltage = (s.rideSnapshot.enterRiding c voltage, .urgent) := by
  rw [State.confirmRun, if_pos h]

theorem rideBegins_confirmed (s : State) (c : ProfileNo) (voltage : Nat) : RideBegins s (s.rideSnapshot.enterRiding c voltage) := by
  rw [enterRiding_eq, rideSnapshot_eq]
  generalize s.current = k
  exact rideBegins_of rfl rfl rfl

theorem seqFrame_normal {s : State} (h : s.seq.state = .normal) (m : Option ProfileNo) (gap : Bool) (voltage : Nat) :
    s.seqFrame m gap voltage = s.frameInNormal m voltage := by simp only [State.seqFrame, h]

theorem seqFrame_confirming {s : State} (h : s.seq.state = .confirming) (m : Option ProfileNo) (gap : Bool) (voltage : Nat) :
    s.seqFrame m gap voltage = s.frameInConfirming m gap voltage := by simp only [State.seqFrame, h]

/-- R97, R98: a match counts in the run that began before it, or begins one. -/
theorem seqFrame_counts {s : State} {gap : Bool} {q c : ProfileNo} {n : Nat}
    (h : (s.seq.state = .normal ∧ c = q ∧ n = 1) ∨ (s.seq.state = .confirming ∧ gap = true ∧ c = q ∧ n = 1)
      ∨ (s.seq.state = .confirming ∧ gap = false
          ∧ (∃ old : ProfileNo, s.seq.candidate = some old ∧ c = if old ≤ q then old else q) ∧ n = s.seq.count + 1)) (voltage : Nat) :
    s.seqFrame (some q) gap voltage = s.confirmRun c n voltage := by
  rcases h with ⟨hst, rfl, rfl⟩ | ⟨hst, rfl, rfl, rfl⟩ | ⟨hst, rfl, ⟨old, hold, rfl⟩, rfl⟩
  · rw [seqFrame_normal hst]; rfl
  · rw [seqFrame_confirming hst]; rfl
  · rw [seqFrame_confirming hst]
    show s.confirmRun (higher (s.seq.candidate.getD q) q) _ _ = _
    rw [hold]
    rfl

/-- Settles O48: a match by `seqFrame_counts`, and then by whether its run is long enough. -/
theorem framesConfirmARide : Obligations.FramesConfirmARide := by
  intro s m gap voltage
  refine ⟨fun hst hm => ?_, fun hst hm => ?_, fun q c n hm hrun => ⟨fun hlt => ?_, fun hle => ?_⟩⟩
  · subst hm; rw [seqFrame_normal hst]; rfl
  · subst hm; rw [seqFrame_confirming hst]; rfl
  · subst hm; rw [seqFrame_counts hrun, confirmRun_below hlt]; rfl
  · subst hm
    refine ⟨_, by rw [seqFrame_counts hrun, confirmRun_reached hle], rideBegins_confirmed s c voltage, fun i => ?_, ?_⟩
    · rw [enterRiding_eq, rideSnapshot_eq, ← hold_eq]
      generalize s.current = k
      exact record_mapRecords _ _ _
    · rw [enterRiding_eq, rideSnapshot_eq]
      generalize s.current = k
      rfl

/-! ## A frame in RIDING (R100, R102) -/

section
variable {s : State} {p : ProfileNo} (hp : s.seq.inUse = some p)
include hp

theorem inUseProfile_eq : s.inUseProfile = s.profile p := by rw [State.inUseProfile, hp]; rfl

theorem recompute_eq (voltage : Nat) :
    s.recompute voltage = s.setSeq { s.seq with er := s.seq.i0 * keeps (s.profile p) voltage / 1000 } := by
  rw [State.recompute, inUseProfile_eq hp]; rfl

theorem frameInRiding_none (voltage : Nat) : s.frameInRiding none voltage
    = (s.setSeq { s.seq with state := .holding, holdTimer := some (s.profile p).hold }, .none) := by
  simp only [State.frameInRiding, State.enterHolding, hp, Option.getD_some]

theorem frameInRiding_higher {q : ProfileNo} (h : q < p) (voltage : Nat) : s.frameInRiding (some q) voltage
    = (s.setSeq { s.seq with inUse := some q, er := s.seq.i0 * keeps (s.profile q) voltage / 1000 }, .ordinary) := by
  simp only [State.frameInRiding, hp, Option.getD_some, if_pos h]
  rfl

theorem frameInRiding_lower {q : ProfileNo} (h : p ≤ q) (voltage : Nat) : s.frameInRiding (some q) voltage
    = if (s.profile p).tracking then
        (s.setSeq { s.seq with er := s.seq.i0 * keeps (s.profile p) voltage / 1000 },
          if s.seq.i0 * keeps (s.profile p) voltage / 1000 = s.seq.er then .none else .ordinary)
      else (s, .none) := by
  have hnot : ¬q < p := not_lt.mpr h
  simp only [State.frameInRiding, hp, Option.getD_some, if_neg hnot, inUseProfile_eq hp, recompute_eq hp]
  rfl

end

theorem seqFrame_riding {s : State} (h : s.seq.state = .riding) (m : Option ProfileNo) (gap : Bool) (voltage : Nat) :
    s.seqFrame m gap voltage = s.frameInRiding m voltage := by simp only [State.seqFrame, h]

theorem seqFrame_hold {s : State} (h : s.seq.state = .holding ∨ s.seq.state = .latched) (m : Option ProfileNo) (gap : Bool) (voltage : Nat) :
    s.seqFrame m gap voltage = s.frameInHold m voltage := by
  rcases h with h | h <;> simp only [State.seqFrame, h]

theorem seqFrame_restoring {s : State} (h : s.seq.state = .restoring) (m : Option ProfileNo) (gap : Bool) (voltage : Nat) :
    s.seqFrame m gap voltage = s.frameInRestoring m voltage := by simp only [State.seqFrame, h]

theorem seqFrame_blind {s : State} (h : s.seq.state = .blind) (m : Option ProfileNo) (gap : Bool) (voltage : Nat) :
    s.seqFrame m gap voltage = s.frameInBlind m voltage := by simp only [State.seqFrame, h]

/-- R102: every frame in RIDING. -/
theorem frames_in_riding {s : State} {p : ProfileNo} {er : Nat} (m : Option ProfileNo) (gap : Bool) (voltage : Nat)
    (hst : s.seq.state = .riding) (hp : s.seq.inUse = some p) (her : er = s.seq.i0 * keeps (s.profile p) voltage / 1000) :
    (m = none → s.seqFrame m gap voltage
      = ({ s with seq := { s.seq with state := .holding, holdTimer := some (s.profile p).hold } }, .none))
    ∧ (∀ q : ProfileNo, m = some q → q < p →
      s.seqFrame m gap voltage
        = ({ s with seq := { s.seq with inUse := some q, er := s.seq.i0 * keeps (s.profile q) voltage / 1000 } }, .ordinary))
    ∧ (∀ q : ProfileNo, m = some q → p ≤ q → (s.profile p).tracking = true → er ≠ s.seq.er →
      s.seqFrame m gap voltage = ({ s with seq := { s.seq with er := er } }, .ordinary))
    ∧ (∀ q : ProfileNo, m = some q → p ≤ q → ((s.profile p).tracking = true → er = s.seq.er) →
      s.seqFrame m gap voltage = (s, .none)) := by
  rw [seqFrame_riding hst]
  refine ⟨fun hm => ?_, fun q hm hq => ?_, fun q hm hq htrack hne => ?_, fun q hm hq hstays => ?_⟩
  · rw [hm, frameInRiding_none hp]; rfl
  · rw [hm, frameInRiding_higher hp hq]; rfl
  · rw [hm, frameInRiding_lower hp hq, if_pos htrack, ← her, if_neg hne]; rfl
  · rw [hm, frameInRiding_lower hp hq, ← her]
    by_cases htrack : (s.profile p).tracking = true
    · rw [if_pos htrack, hstays htrack, if_pos rfl]; rfl
    · rw [if_neg htrack]

/-! ## A frame in HOLDING, LATCHED, RESTORING or BLIND (R103, R105, R107, R108, R114, R115) -/

/-- R108: the state that reaches NORMAL is determined by the one it comes from. -/
theorem eq_reachNormal {s u : State} (h : ReachesNormal s u) : u = s.reachNormal := by
  obtain ⟨hrec, hseq, hatt, hrest⟩ := h
  have hu : u = { s with table := u.table, seq := u.seq, attention := u.attention } :=
    congrArg (fun x : State => { x with table := u.table, seq := u.seq, attention := u.attention }) hrest
  have htable : u.table = s.reachNormal.table :=
    vector_ext_get fun i => (hrec i).trans (record_mapRecords s DrawRecord.unhold i).symm
  rw [hu, htable, hseq, hatt]
  rfl

theorem reachesNormal_reachNormal (s : State) : ReachesNormal s s.reachNormal :=
  ⟨fun i => record_mapRecords _ _ i, rfl, rfl, rfl⟩

/-- R107, R108: the Sequencer with the current taken anew and a re-entry counted to `n`. -/
def State.reentered (s : State) (n : Nat) : Sequencer :=
  { s.seq with i0 := s.current, reentries := n, resumeRequired := s.seq.resumeRequired || decide (n = s.timing.reentryLimit) }

/-- R107: the ride that a match in RESTORING begins. -/
theorem frameInRestoring_some (s : State) (q : ProfileNo) (voltage : Nat) : s.frameInRestoring (some q) voltage
    = ((s.setSeq (s.reentered (if s.seq.reentries = s.timing.reentryLimit then s.seq.reentries
        else s.seq.reentries + 1))).enterRiding q voltage, .urgent) := by
  simp only [State.frameInRestoring, State.reentered, rideReference_eq]
  generalize s.current = k
  rfl

theorem reentered_seq (s : State) (n : Nat) (q : ProfileNo) (voltage : Nat) : ((s.setSeq (s.reentered n)).enterRiding q voltage).seq
    = { s.seq with state := .riding, inUse := some q, candidate := none, count := 0, i0 := s.current,
                   er := s.current * keeps (s.profile q) voltage / 1000, reentries := n,
                   resumeRequired := s.seq.resumeRequired || decide (n = s.timing.reentryLimit),
                   holdTimer := none, restoreTimer := none } := by
  rw [enterRiding_seq, State.reentered]
  generalize s.current = k
  rfl

theorem higher_silence (q : ProfileNo) : higher 8 q = q := by
  unfold higher
  split
  next h => exact le_antisymm h (Fin.le_last q)
  next => rfl

theorem frameInBlind_none {s : State} (h : 0 < s.seq.i0) (voltage : Nat) : s.frameInBlind none voltage
    = (s.setSeq { s.seq with state := .holding, inUse := some 8, holdTimer := some (s.profile 8).hold }, .none) := by
  rw [State.frameInBlind, if_neg (by omega)]; rfl

theorem frameInBlind_some {s : State} (h : 0 < s.seq.i0) (q : ProfileNo) (voltage : Nat) : s.frameInBlind (some q) voltage
    = ((s.setSeq { s.seq with state := .holding, inUse := some 8, holdTimer := some (s.profile 8).hold }).enterRiding q voltage,
        .urgent) := by
  rw [State.frameInBlind, if_neg (by omega)]
  show ((s.enterHolding 8).enterRiding (higher 8 q) voltage, _) = _
  rw [higher_silence]
  rfl

/-- R103, R105: a match in HOLDING or LATCHED continues the ride. -/
theorem frameInHold_some {s : State} {p : ProfileNo} (hp : s.seq.inUse = some p) (q : ProfileNo) (voltage : Nat) :
    s.frameInHold (some q) voltage = (s.enterRiding (if p ≤ q then p else q) voltage, .urgent) := by
  rw [State.frameInHold, hp]; rfl

theorem frameInBlind_normal {s : State} (h : s.seq.i0 = 0) (m : Option ProfileNo) (voltage : Nat) : s.frameInBlind m voltage
    = ((s.reachNormal.frameInNormal m voltage).1, Request.ordinary.join (s.reachNormal.frameInNormal m voltage).2) := by
  rw [State.frameInBlind, if_pos h]

/-- Settles O49: RIDING by `frames_in_riding`, every other state by what its frame function does without and with a match. -/
theorem framesSteerAndReenterARide : Obligations.FramesSteerAndReenterARide := by
  refine ⟨fun s m gap voltage p er hst hp her => frames_in_riding m gap voltage hst hp her, fun s m gap voltage p hp =>
    ⟨fun hst hm => ?_, fun q c hst hm hc => ?_, fun q n hst hm hn => ?_, fun hst hpos hm => ?_, fun q hst hpos hm => ?_,
      fun hst hzero u hu => ?_⟩⟩
  · subst hm
    rcases hst with hst | hst | hst
    · rw [seqFrame_hold (.inl hst)]; rfl
    · rw [seqFrame_hold (.inr hst)]; rfl
    · rw [seqFrame_restoring hst]; rfl
  · subst hm hc
    exact ⟨s.enterRiding (if p ≤ q then p else q) voltage, by rw [seqFrame_hold hst, frameInHold_some hp],
      rideBegins_enterRiding s s.seq (if p ≤ q then p else q) voltage, enterRiding_table s s.seq _ voltage,
      enterRiding_seq s _ voltage⟩
  · subst hm
    rw [seqFrame_restoring hst, frameInRestoring_some, ← hn]
    exact ⟨_, rfl, rideBegins_enterRiding s (s.reentered n) q voltage, enterRiding_table s (s.reentered n) q voltage,
      reentered_seq s n q voltage⟩
  · subst hm; rw [seqFrame_blind hst, frameInBlind_none hpos]; rfl
  · subst hm
    rw [seqFrame_blind hst, frameInBlind_some hpos]
    exact ⟨_, rfl, rideBegins_enterRiding s _ q voltage, enterRiding_table s _ q voltage,
      enterRiding_seq (s.setSeq _) q voltage⟩
  · have hnormal : u.seq.state = .normal := by rw [hu.2.1]
    rw [seqFrame_blind hst, frameInBlind_normal hzero, ← eq_reachNormal hu, seqFrame_normal hnormal]

/-! ## The silence, hold and restore timers (R104, R106, R111 to R113) -/

theorem silenceCap_riding {s : State} (h : s.seq.state.erInEffect = true) : s.silenceCap
    = s.setSeq { s.seq with er := min s.seq.er (s.seq.i0 * (s.profile 8).retain / 1000) } := by
  rw [State.silenceCap, if_pos h]; rfl

theorem silenceCap_normal {s : State} (h : s.seq.state.erInEffect ≠ true) : s.silenceCap
    = (s.setSeq { s.seq with i0 := s.current, er := s.current * (s.profile 8).retain / 1000 }).mapRecords DrawRecord.hold := by
  simp only [State.silenceCap, if_neg h, rideSnapshot_eq]
  generalize s.current = k
  rfl

/-- A capture depends on the banks and the attention sources alone. -/
theorem captureAs_others (s : State) (x : FaultName) (k : Nat) (st : SeqState) (table : Vector DrawRecord 24) (seq : Sequencer)
    (grid : Grid) : ({ s with table := table, seq := seq, grid := grid } : State).captureAs x k st
      = { s.captureAs x k st with table := table, seq := seq, grid := grid } := by
  have hbank : ({ s with table := table, seq := seq, grid := grid } : State).bank x.bank = s.bank x.bank := rfl
  unfold State.captureAs
  dsimp only
  rw [hbank]
  split <;> rfl

theorem enterBlind_eq (s : State) : s.enterBlind = (((s.silenceCap.setSeq { s.silenceCap.seq with
      state := .blind, inUse := some 8, candidate := none, count := 0, holdTimer := none, restoreTimer := none }).captureAs .silence 8
        s.seq.state).occur srcRide).overtake := rfl

/-- R111: the parts of the state that the silence event leaves as `silenceCap` has them, and what it changes. -/
theorem enterBlind_parts (s : State) (g : Grid) : (s.setGrid g).enterBlind
    = ((({ s.captureAs .silence 8 s.seq.state with table := s.silenceCap.table, seq := { s.silenceCap.seq with
          state := .blind, inUse := some 8, candidate := none, count := 0, holdTimer := none, restoreTimer := none }, grid := g } :
        State).occur srcRide).setPort s.port.overtaken) := by
  have hcap : (s.setGrid g).silenceCap = { s with table := s.silenceCap.table, seq := s.silenceCap.seq, grid := g } := by
    have hcurrent : (s.setGrid g).current = s.current := rfl
    by_cases he : s.seq.state.erInEffect = true
    · rw [silenceCap_riding (s := s.setGrid g) he, silenceCap_riding he]; rfl
    · rw [silenceCap_normal (s := s.setGrid g) he, silenceCap_normal he, hcurrent]
      generalize s.current = k
      rfl
  have hport : (s.captureAs .silence 8 s.seq.state).port = s.port := by rw [captureAs_eq]
  rw [enterBlind_eq, hcap, overtake_eq]
  dsimp only [State.setSeq, State.setGrid]
  rw [captureAs_others]
  dsimp only [State.occur, State.setSource]
  rw [hport]

theorem erInEffect_ride (s : State) :
    s.seq.state.erInEffect = decide (s.seq.state ≠ .normal ∧ s.seq.state ≠ .confirming) := by
  cases s.seq.state <;> rfl

theorem exec_silenceTimerExpiry {s : State} (hup : s.up) : exec .silenceTimerExpiry s
    = .next (if s.grid.silenceTimer.isSome then
        ((s.setGrid { s.grid with silenceTimer := none, seqRef := none }).enterBlind).apply .urgent else s) := by
  rw [exec, execSilenceTimerExpiry, whileRunning_up hup]

theorem exec_holdTimerExpiry {s : State} (hup : s.up) : exec .holdTimerExpiry s
    = .next (if s.seq.state = .holding ∧ s.seq.holdTimer.isSome then s.holdExpiry.1.apply s.holdExpiry.2 else s) := by
  rw [exec, execHoldTimerExpiry, whileRunning_up hup]

theorem exec_restoreTimerExpiry {s : State} (hup : s.up) : exec .restoreTimerExpiry s
    = .next (if s.seq.state = .restoring ∧ s.seq.restoreTimer.isSome then s.restoreExpiry.apply .ordinary else s) := by
  rw [exec, execRestoreTimerExpiry, whileRunning_up hup]

/-- Settles O50: the silence event by `enterBlind_parts`, the other two timers by what `holdExpiry` and `restoreExpiry` do. -/
theorem sequencerTimersExpire : Obligations.SequencerTimersExpire := by
  intro s hup
  refine ⟨fun h => ?_, fun h ride hride => ?_, fun h => ?_, fun p hst hrun hp => ⟨fun hreq => ?_, fun hreq => ?_⟩, fun h => ?_,
    fun p er hst hrun hp her => ⟨fun hlt => ?_, fun hle => ?_⟩⟩
  · rw [exec_silenceTimerExpiry hup, h]; rfl
  · refine ⟨_, by rw [exec_silenceTimerExpiry hup, if_pos (Option.isSome_iff_ne_none.mpr h), enterBlind_parts], ?_, fun i => ?_, ?_⟩
    · have hport : (s.captureAs .silence 8 s.seq.state).port = s.port := by rw [captureAs_eq]
      refine rideBegins_of ?_ rfl rfl
      show s.port.overtaken = (s.captureAs .silence 8 s.seq.state).port.overtaken
      rw [hport]
    · show s.silenceCap.record i = _
      rw [hride, ← erInEffect_ride]
      by_cases he : s.seq.state.erInEffect = true
      · rw [silenceCap_riding he, if_pos he]; rfl
      · rw [silenceCap_normal he, if_neg he, ← hold_eq]
        generalize s.current = k
        exact record_mapRecords _ _ _
    · show ({ s.silenceCap.seq with state := .blind, inUse := some 8, candidate := none, count := 0, holdTimer := none,
                                    restoreTimer := none } : Sequencer) = _
      rw [hride, ← erInEffect_ride]
      by_cases he : s.seq.state.erInEffect = true
      · rw [silenceCap_riding he, if_pos he, if_pos he]; rfl
      · rw [silenceCap_normal he, if_neg he, if_neg he]
        generalize s.current = k
        rfl
  · rw [exec_holdTimerExpiry hup, if_neg fun h' => h ⟨h'.1, Option.isSome_iff_ne_none.mp h'.2⟩]
  · rw [exec_holdTimerExpiry hup, if_pos ⟨hst, Option.isSome_iff_ne_none.mpr hrun⟩, State.holdExpiry, if_pos hreq, hp]
    rfl
  · rw [exec_holdTimerExpiry hup, if_pos ⟨hst, Option.isSome_iff_ne_none.mpr hrun⟩, State.holdExpiry, if_neg (by simp [hreq]),
      State.enterRestoring, inUseProfile_eq hp]
    rfl
  · rw [exec_restoreTimerExpiry hup, if_neg fun h' => h ⟨h'.1, Option.isSome_iff_ne_none.mp h'.2⟩]
  · have hbelow : ¬s.e1 ≤ min (s.seq.er + s.inUseProfile.step) 65535 := by
      rw [inUseProfile_eq hp, ← her]
      exact Nat.not_le.mpr hlt
    rw [exec_restoreTimerExpiry hup, if_pos ⟨hst, Option.isSome_iff_ne_none.mpr hrun⟩, State.restoreExpiry, if_neg hbelow,
      inUseProfile_eq hp, ← her]
    rfl
  · have hreached : s.e1 ≤ min (s.seq.er + s.inUseProfile.step) 65535 := by
      rw [inUseProfile_eq hp, ← her]
      exact hle
    refine ⟨(({ s with seq := { s.seq with er := er } } : State)).reachNormal, ?_, reachesNormal_reachNormal _⟩
    rw [exec_restoreTimerExpiry hup, if_pos ⟨hst, Option.isSome_iff_ne_none.mpr hrun⟩, State.restoreExpiry, if_pos hreached,
      inUseProfile_eq hp, ← her]
    rfl

end Sys2Proof.Machine

/-!
The receivers of the rectifier lines and of the grid line (R76 to R81, R120 to R129, R141): what sets their flags, what each
character does, and the reply.
-/

namespace Sys2Proof.Machine

/-! ## Line flags (R141, R80) -/

theorem setLine_setLine (s : State) (l : LineNo) (x y : Line) : (s.setLine l x).setLine l y = s.setLine l y := by
  simp [State.setLine]

/-- R141, R80: reporting newly set line flags depends on neither the lines nor Grid Intake. -/
theorem reportLine_others (s : State) (lines : Vector Line 8) (grid : Grid) (n : Nat) :
    ({ s with lines := lines, grid := grid } : State).reportLine n = { s.reportLine n with lines := lines, grid := grid } := by
  have hbank : (({ s with lines := lines, grid := grid } : State).occurMember srcLine n).bank (FaultName.lineError).bank
      = (s.occurMember srcLine n).bank (FaultName.lineError).bank := rfl
  unfold State.reportLine State.capture State.captureAs
  dsimp only
  rw [hbank]
  split <;> rfl

/-- R141: what one character, frame or reply sets on a rectifier line. -/
theorem raiseLine_old {s : State} {l : LineNo} {mask : Byte} (h : (s.line l).flags ||| mask = (s.line l).flags) :
    s.raiseLine l mask = s.setLine l { s.line l with flags := (s.line l).flags ||| mask ||| 0x80 } := by
  have hnew : raisesNew (s.line l).flags mask = false := by simp [raisesNew, h]
  simp only [State.raiseLine, hnew]
  rfl

theorem raiseLine_new {s : State} {l : LineNo} {mask : Byte} (h : (s.line l).flags ||| mask ≠ (s.line l).flags) :
    s.raiseLine l mask = { s.reportLine l.val with
      lines := s.lines.set l { s.line l with flags := (s.line l).flags ||| mask ||| 0x80 } } := by
  have hnew : raisesNew (s.line l).flags mask = true := by simp [raisesNew, h]
  simp only [State.raiseLine, hnew, if_true]
  have hgrid : (s.reportLine l.val).grid = s.grid := by rw [reportLine_eq]
  have e := reportLine_others s (s.lines.set l { s.line l with flags := (s.line l).flags ||| mask ||| 0x80 }) s.grid l.val
  exact e.trans (by rw [← hgrid])

/-- R121 to R123, R129, R141: a frame or a reply given up. -/
theorem lineFault_giveUp (s : State) (l : LineNo) (mask : Byte) : LineFault s (s.giveUp l mask) l mask := by
  have hline : (s.setLine l { s.line l with receiver := .hunting }).line l = { s.line l with receiver := .hunting } :=
    line_setLine_self _ _ _
  have hlines : (s.giveUp l mask).lines = s.lines.set l { s.line l with receiver := .hunting, flags := (s.line l).flags ||| mask ||| 0x80 } := by
    have hset := setLine_setLine s l { s.line l with receiver := .hunting }
      { s.line l with receiver := .hunting, flags := (s.line l).flags ||| mask ||| 0x80 }
    by_cases h : (s.line l).flags ||| mask = (s.line l).flags
    · rw [State.giveUp, raiseLine_old (by rw [hline]; exact h), hline, hset]; rfl
    · rw [State.giveUp, raiseLine_new (by rw [hline]; exact h), hline]
      exact congrArg State.lines hset
  have hall : ∀ k, (s.giveUp l mask).line k = if l = k then { s.line l with receiver := .hunting, flags := (s.line l).flags ||| mask ||| 0x80 }
      else s.line k := fun k => by
    rw [State.line, hlines]
    exact line_setLine _ _ _ _
  refine ⟨by rw [hall, if_pos rfl], fun k hk => by rw [hall, if_neg (Ne.symm hk)], fun h => ?_, fun h => ?_⟩
  · rw [State.giveUp, raiseLine_old (by rw [hline]; exact h)]; rfl
  · rw [State.giveUp, raiseLine_new (by rw [hline]; exact h)]
    have e := reportLine_others s (s.setLine l { s.line l with receiver := .hunting }).lines s.grid l.val
    have hreport : (s.setLine l { s.line l with receiver := .hunting }).reportLine l.val
        = { s.reportLine l.val with lines := (s.setLine l { s.line l with receiver := .hunting }).lines, grid := s.grid } := e
    rw [hreport]
    show ({ s.reportLine l.val with lines := s.lines, grid := s.grid } : State) = s.reportLine l.val
    rw [reportLine_eq]

/-- R77 to R80: a frame on the grid line given up. -/
theorem gridFault_giveUpGrid (s : State) (mask : Byte) : GridFault s (s.giveUpGrid mask) mask := by
  by_cases h : s.grid.flags ||| mask = s.grid.flags
  · have hnew : raisesNew s.grid.flags mask = false := by simp [raisesNew, h]
    have hgive : s.giveUpGrid mask = s.setGrid { s.grid with receiver := .hunting, flags := s.grid.flags ||| mask ||| 0x80 } := by
      show (if raisesNew s.grid.flags mask then _ else _) = _
      rw [hnew]; rfl
    rw [hgive]
    exact ⟨rfl, fun _ => rfl, fun h' => absurd h h'⟩
  · have hnew : raisesNew s.grid.flags mask = true := by simp [raisesNew, h]
    have hgive : s.giveUpGrid mask = { s.reportLine 8 with
        grid := { s.grid with receiver := .hunting, flags := s.grid.flags ||| mask ||| 0x80 } } := by
      have hlines : (s.reportLine 8).lines = s.lines := by rw [reportLine_eq]
      have e := reportLine_others s s.lines { s.grid with receiver := .hunting, flags := s.grid.flags ||| mask ||| 0x80 } 8
      show (if raisesNew s.grid.flags mask then _ else _) = _
      rw [hnew, if_pos rfl]
      exact e.trans (by rw [← hlines])
    rw [hgive]
    refine ⟨rfl, fun h' => absurd h' h, fun _ => ?_⟩
    show ({ s.reportLine 8 with grid := s.grid } : State) = s.reportLine 8
    rw [reportLine_eq]

/-! ## Characters still to come (log entry 2) -/

theorem stillToCome_rest {taken rest : List Byte} (h : rest ≠ []) : stillToCome taken (taken ++ rest) = rest := by
  have hpos := List.length_pos_iff.mpr h
  rw [stillToCome, if_pos (by simpa using hpos), List.drop_left]

theorem stillToCome_all {taken frame : List Byte} (h : ∀ rest, rest ≠ [] → frame ≠ taken ++ rest) : stillToCome taken frame = frame := by
  refine if_neg fun h' => ?_
  obtain ⟨hp, hlt⟩ := Bool.and_eq_true_iff.mp h'
  obtain ⟨rest, rfl⟩ := List.isPrefixOf_iff_prefix.mp hp
  refine h rest (fun hnil => ?_) rfl
  rw [hnil, List.append_nil] at hlt
  exact absurd (of_decide_eq_true hlt) (lt_irrefl _)

theorem stillToCome_nil (frame : List Byte) : stillToCome [] frame = frame := by
  unfold stillToCome
  split <;> rfl

/-! ## What a sound character does on a rectifier line (R120, R123, R129) -/

section
variable {s : State} {l : LineNo}

theorem receiveByte_hunting (h : (s.line l).receiver = .hunting) (b : Byte) : s.receiveByte l b
    = if isFetchLead b then s.setLine l { s.line l with receiver := .receiving [b] } else s := by
  simp only [State.receiveByte, h]

theorem receiveByte_receiving {taken : List Byte} (h : (s.line l).receiver = .receiving taken) (b : Byte) : s.receiveByte l b
    = if taken.length = 3 then s.fetchFrame l (taken ++ [b]) else s.setLine l { s.line l with receiver := .receiving (taken ++ [b]) } := by
  simp only [State.receiveByte, h]

theorem receiveByte_sending {frame : List Byte} {n : Nat} (h : (s.line l).receiver = .sending frame n) (b : Byte) : s.receiveByte l b
    = if frame[n]? = some b then
        if frame.length ≤ n + 1 then s.setLine l { s.line l with receiver := .hunting }
        else s.setLine l { s.line l with receiver := .sending frame (n + 1) }
      else s.giveUp l flagCollision := by
  simp only [State.receiveByte, h]

theorem setLine_hunting (h : (s.line l).receiver = .hunting) : s.setLine l { s.line l with receiver := .hunting } = s := by
  have : ({ s.line l with receiver := .hunting } : Line) = s.line l := by rw [← h]
  rw [this, setLine_line_self]

theorem fetchFrame_eq (lead status low check : Byte) : s.fetchFrame l [lead, status, low, check]
    = if checkSum [lead, status, low, check] = 0 then
        (s.setLine l { s.line l with receiver := .hunting }).takeFetch (chanAt l (Fin.ofNat 4 lead.toNat)) (bitOf status 7) (bitOf status 6)
          (bitOf status 5) (status.toNat % 16 * 256 + low.toNat)
      else s.giveUp l flagCheck := rfl

/-- The receiver of the line does not bear on what a complete frame does. -/
theorem fetchFrame_setLine (r : Receiver) (bs : List Byte) :
    (s.setLine l { s.line l with receiver := r }).fetchFrame l bs = s.fetchFrame l bs := by
  have hline : (s.setLine l { s.line l with receiver := r }).line l = { s.line l with receiver := r } := line_setLine_self _ _ _
  have h : (s.setLine l { s.line l with receiver := r }).setLine l { (s.setLine l { s.line l with receiver := r }).line l with receiver := .hunting }
      = s.setLine l { s.line l with receiver := .hunting } := by rw [hline, setLine_setLine]
  unfold State.fetchFrame
  dsimp only
  rw [h]

/-- R120: the bytes of an open frame are taken as they come. -/
theorem lineCharacters_open (hclear : s.underway.lines.get l = false) (taken bs : List Byte) (h : taken.length + bs.length ≤ 3) :
    (s.setLine l { s.line l with receiver := .receiving taken }).lineCharacters l bs
      = s.setLine l { s.line l with receiver := .receiving (taken ++ bs) } := by
  induction bs generalizing taken with
  | nil => simp [State.lineCharacters]
  | cons b bs ih =>
    have hline : (s.setLine l { s.line l with receiver := .receiving taken }).line l = { s.line l with receiver := .receiving taken } :=
      line_setLine_self _ _ _
    have hstep : (s.setLine l { s.line l with receiver := .receiving taken }).lineCharacter l b
        = s.setLine l { s.line l with receiver := .receiving (taken ++ [b]) } := by
      rw [lineCharacter_clear (s := s.setLine l _) hclear, receiveByte_receiving (taken := taken) (by rw [hline]),
        if_neg (by simp only [List.length_cons] at h; omega), hline, setLine_setLine]
    have hrest := ih (taken ++ [b]) (by simp only [List.length_append, List.length_cons, List.length_nil] at h ⊢; omega)
    rw [State.lineCharacters, List.foldl_cons, hstep]
    rw [List.append_assoc] at hrest
    exact hrest

end

theorem isFetchLead_iff (b : Byte) : isFetchLead b = true ↔ 0xC0 ≤ b.toNat ∧ b.toNat ≤ 0xC3 := by
  have h : isFetchLead b = decide (0xC0 ≤ b.toNat ∧ b.toNat < 0xC4) := rfl
  rw [h, decide_eq_true_iff]
  omega

/-! ## The row FETCH on a hunting line (R120, R123) -/

theorem fetchBytes_eq (c : Chan) (ready fault limit : Bool) (m : BitVec 12) : ∃ lead status low check : Byte,
    fetchBytes c ready fault limit m = [lead, status, low, check] ∧ checkSum [lead, status, low, check] = 0
      ∧ lead.toNat = 0xC0 + c.val % 4 ∧ status.toNat = statusNat ready fault limit + m.toNat / 256 ∧ low.toNat = m.toNat % 256 := by
  have hm := m.isLt
  have hs : statusNat ready fault limit ≤ 224 := by cases ready <;> cases fault <;> cases limit <;> decide
  have hc : c.val % 4 < 4 := Nat.mod_lt _ (by omega)
  refine ⟨_, _, _, _, rfl, ?_, ?_, ?_, ?_⟩
  · simp only [checkSum, checkByte, List.map_cons, List.map_nil, List.sum_cons, List.sum_nil, toNat_byteOf]
    omega
  · have hlead : Config.fetchLead = 0xC0 := rfl
    rw [toNat_byteOf_lt (by omega)]; omega
  · rw [toNat_byteOf_lt]; omega
  · exact toNat_byteOf _

theorem bitOf_status {status : Byte} {ready fault limit : Bool} {k : Nat} (hk : k < 16)
    (h : status.toNat = statusNat ready fault limit + k) :
    bitOf status 7 = ready ∧ bitOf status 6 = fault ∧ bitOf status 5 = limit ∧ status.toNat % 16 = k := by
  simp only [bitOf, h]
  cases ready <;> cases fault <;> cases limit <;> simp only [statusNat, if_true, if_false, Bool.false_eq_true, decide_eq_true_eq, decide_eq_false_iff_not] <;>
    omega

/-- R123, R124: on a hunting line the row FETCH is one valid FETCH taken. -/
theorem fetch_hunting {s : State} {c : Chan} (hclear : s.underway.lines.get (lineOf c) = false) (hr : (s.line (lineOf c)).receiver = .hunting)
    (ready fault limit : Bool) (m : BitVec 12) :
    s.lineCharacters (lineOf c) (fetchBytes c ready fault limit m) = s.takeFetch c ready fault limit m.toNat := by
  obtain ⟨lead, status, low, check, hbytes, hsum, hlead, hstatus, hlow⟩ := fetchBytes_eq c ready fault limit m
  have hm := m.isLt
  have hc := c.isLt
  obtain ⟨hb7, hb6, hb5, hhigh⟩ := bitOf_status (by omega) hstatus
  have hopen : s.lineCharacter (lineOf c) lead = s.setLine (lineOf c) { s.line (lineOf c) with receiver := .receiving [lead] } := by
    rw [lineCharacter_clear hclear, receiveByte_hunting hr, if_pos ((isFetchLead_iff lead).mpr (by omega))]
  have hbody := lineCharacters_open hclear [lead] [status, low] (by simp)
  have hchan : chanAt (lineOf c) (Fin.ofNat 4 lead.toNat) = c := by
    apply Fin.ext
    show 4 * (c.val / 4) + lead.toNat % 4 = c.val
    omega
  calc s.lineCharacters (lineOf c) (fetchBytes c ready fault limit m)
      = ((s.lineCharacter (lineOf c) lead).lineCharacters (lineOf c) [status, low]).lineCharacter (lineOf c) check := by rw [hbytes]; rfl
    _ = (s.setLine (lineOf c) { s.line (lineOf c) with receiver := .receiving [lead, status, low] }).lineCharacter (lineOf c) check := by
        rw [hopen, hbody]; rfl
    _ = s.fetchFrame (lineOf c) [lead, status, low, check] := by
        rw [lineCharacter_clear (s := s.setLine _ _) hclear, receiveByte_receiving (taken := [lead, status, low]) (by rw [line_setLine_self]),
          if_pos (by rfl), fetchFrame_setLine]
        rfl
    _ = s.takeFetch c ready fault limit m.toNat := by
        rw [fetchFrame_eq, if_pos hsum, hchan, hb7, hb6, hb5, hhigh, hlow, setLine_hunting hr]
        congr 1
        omega

theorem exec_fetch {s : State} (hup : s.up) (c : Chan) (ready fault limit : Bool) (m : BitVec 12) : exec (.fetch c ready fault limit m) s
    = .next (s.lineCharacters (lineOf c) (stillToCome (s.line (lineOf c)).receiver.taken (fetchBytes c ready fault limit m))) := by
  rw [exec, execFetch, whileRunning_up hup]

theorem exec_fetch_hunting {s : State} {c : Chan} (hears : s.hears (lineOf c)) (hr : (s.line (lineOf c)).receiver = .hunting)
    (ready fault limit : Bool) (m : BitVec 12) : exec (.fetch c ready fault limit m) s = .next (s.takeFetch c ready fault limit m.toNat) := by
  rw [exec_fetch hears.1, hr]
  show Host.Outcome.next (s.lineCharacters _ (stillToCome [] _)) = _
  rw [stillToCome_nil, fetch_hunting hears.2 hr]

theorem exec_rectifierLineCharacter {s : State} {l : LineNo} (hears : s.hears l) (b : Byte) :
    exec (.rectifierLineCharacter l b) s = .next (s.receiveByte l b) := by
  rw [exec, execRectifierLineCharacter, whileRunning_up hears.1, lineCharacter_clear hears.2]

/-! ## The grid line (R76 to R82) -/

theorem setGrid_hunting {s : State} (h : s.grid.receiver = .hunting) : s.setGrid { s.grid with receiver := .hunting } = s := by
  have : ({ s.grid with receiver := .hunting } : Grid) = s.grid := by rw [← h]
  rw [this]; rfl

theorem receiveGridByte_hunting {s : State} (h : s.grid.receiver = .hunting) (b : Byte) : s.receiveGridByte b
    = if b.toNat = Config.gridLead then s.setGrid { s.grid with receiver := .receiving [b] } else s := by
  simp only [State.receiveGridByte, h]

theorem receiveGridByte_receiving {s : State} {taken : List Byte} (h : s.grid.receiver = .receiving taken) (b : Byte) : s.receiveGridByte b
    = if taken.length = 8 then s.gridFrameDone (taken ++ [b]) else s.setGrid { s.grid with receiver := .receiving (taken ++ [b]) } := by
  simp only [State.receiveGridByte, h]

theorem gridFrameDone_setGrid (s : State) (r : GridReceiver) (bs : List Byte) :
    (s.setGrid { s.grid with receiver := r }).gridFrameDone bs = s.gridFrameDone bs := by
  unfold State.gridFrameDone
  rfl

theorem gridCharacter_receiving {s : State} (hclear : s.underway.grid = false) (taken : List Byte) (b : Byte) :
    (s.setGrid { s.grid with receiver := .receiving taken }).gridCharacter b
      = if taken.length = 8 then s.gridFrameDone (taken ++ [b]) else s.setGrid { s.grid with receiver := .receiving (taken ++ [b]) } := by
  have hclear' : (s.setGrid { s.grid with receiver := .receiving taken }).underway.grid = false := hclear
  rw [gridCharacter_clear hclear', receiveGridByte_receiving (taken := taken) rfl, gridFrameDone_setGrid]
  rfl

/-- R76: the bytes of an open frame are taken as they come. -/
theorem gridCharacters_open {s : State} (hclear : s.underway.grid = false) (taken bs : List Byte) (h : taken.length + bs.length ≤ 8) :
    bs.foldl State.gridCharacter (s.setGrid { s.grid with receiver := .receiving taken })
      = s.setGrid { s.grid with receiver := .receiving (taken ++ bs) } := by
  induction bs generalizing taken with
  | nil => simp
  | cons b bs ih =>
    have hrest := ih (taken ++ [b]) (by simp only [List.length_append, List.length_cons, List.length_nil] at h ⊢; omega)
    rw [List.foldl_cons, gridCharacter_receiving hclear, if_neg (by simp only [List.length_cons] at h; omega)]
    rw [List.append_assoc] at hrest
    exact hrest

/-- The bytes of a grid frame but its check byte. -/
theorem gridBytes_eq (second : Byte) (v u d : Word) (check : Byte) :
    gridBytes second v u d check = [0xA5, second] ++ bytes2 v.toNat ++ bytes2 u.toNat ++ bytes2 d.toNat ++ [check] := rfl

/-- R76: on a hunting line the row GRID_FRAME is one complete frame. -/
theorem gridFrame_hunting {s : State} (hclear : s.underway.grid = false) (hr : s.grid.receiver = .hunting) (second : Byte) (v u d : Word)
    (check : Byte) : (gridBytes second v u d check).foldl State.gridCharacter s = s.gridFrameDone (gridBytes second v u d check) := by
  have hopen : s.gridCharacter 0xA5 = s.setGrid { s.grid with receiver := .receiving [0xA5] } := by
    rw [gridCharacter_clear hclear, receiveGridByte_hunting hr, if_pos (by decide)]
  have hbody := gridCharacters_open hclear [0xA5] (second :: (bytes2 v.toNat ++ bytes2 u.toNat ++ bytes2 d.toNat)) (by simp [bytes2])
  have hsplit : gridBytes second v u d check = (0xA5 :: (second :: (bytes2 v.toNat ++ bytes2 u.toNat ++ bytes2 d.toNat))) ++ [check] := rfl
  rw [hsplit, List.foldl_append, List.foldl_cons (b := s), hopen, hbody]
  rw [List.foldl_cons, gridCharacter_receiving hclear, if_pos (by simp [bytes2])]
  rfl

/-- R79, R81, R82: what a complete grid frame does. -/
theorem gridFrameDone_eq (s : State) (second : Byte) (v u d : Word) (check : Byte) : s.gridFrameDone (gridBytes second v u d check)
    = if checkSum (gridBytes second v u d check) = 0 then
        if bitOf second 0 then
          (s.setGrid { s.grid with receiver := .hunting }).validFrame (second.toNat / 16) (bitOf second 1)
            (wordOf (byteOf (v.toNat / 256)) (byteOf v.toNat)) (wordOf (byteOf (u.toNat / 256)) (byteOf u.toNat))
            (signed16 (wordOf (byteOf (d.toNat / 256)) (byteOf d.toNat)))
        else (s.setGrid { s.grid with receiver := .hunting }).capture .frameError 8
      else s.giveUpGrid flagCheck := rfl

theorem exec_gridFrame {s : State} (hup : s.up) (second : Byte) (v u d : Word) (check : Byte) : exec (.gridFrame second v u d check) s
    = .next ((stillToCome s.grid.receiver.taken (gridBytes second v u d check)).foldl State.gridCharacter s) := by
  rw [exec, execGridFrame, whileRunning_up hup]
  rfl

theorem exec_gridFrame_hunting {s : State} (hears : s.hearsGrid) (hr : s.grid.receiver = .hunting) (second : Byte) (v u d : Word)
    (check : Byte) : exec (.gridFrame second v u d check) s = .next (s.gridFrameDone (gridBytes second v u d check)) := by
  rw [exec_gridFrame hears.1, hr]
  show Host.Outcome.next ((stillToCome [] _).foldl _ _) = _
  rw [stillToCome_nil, gridFrame_hunting hears.2 hr]

theorem exec_gridLineCharacter {s : State} (hears : s.hearsGrid) (b : Byte) :
    exec (.gridLineCharacter b) s = .next (s.receiveGridByte b) := by
  rw [exec, execGridLineCharacter, whileRunning_up hears.1, gridCharacter_clear hears.2]

end Sys2Proof.Machine

/-!
Bad frames (R121 to R123, R129, R141), the reply (R125, R127, R128), characters (R120, R76) and the taking of a grid frame (R82 to R92).
-/

namespace Sys2Proof.Machine

/-! ## What the characters of a line leave as it was -/

/-- From `s` to `t` nothing changes but records, channels, lines, the Engine, attention and banks. -/
abbrev LinesMove (s t : State) : Prop :=
  { t with lines := s.lines, table := s.table, channels := s.channels, engine := s.engine, attention := s.attention, banks := s.banks } = s

theorem LinesMove.trans {s t u : State} (h : LinesMove s t) (k : LinesMove t u) : LinesMove s u :=
  (congrArg (fun x : State => { x with lines := s.lines, table := s.table, channels := s.channels, engine := s.engine, attention := s.attention, banks := s.banks }) k).trans h

theorem LinesMove.resetState {s t : State} (h : LinesMove s t) : t.resetState = s.resetState := by
  have e := congrArg State.resetState h
  exact e

theorem RestKept.linesMove {s t : State} (h : RestKept s t) : LinesMove s t :=
  congrArg (fun x : State => { x with lines := s.lines }) h

theorem linesMove_setLine (s : State) (l : LineNo) (x : Line) : LinesMove s (s.setLine l x) := rfl

theorem linesMove_raiseLine (s : State) (l : LineNo) (mask : Byte) : LinesMove s (s.raiseLine l mask) := by
  by_cases h : (s.line l).flags ||| mask = (s.line l).flags
  · rw [raiseLine_old h]; rfl
  · rw [raiseLine_new h, reportLine_eq]

theorem linesMove_giveUp (s : State) (l : LineNo) (mask : Byte) : LinesMove s (s.giveUp l mask) :=
  (linesMove_setLine s l _).trans (linesMove_raiseLine _ l mask)

theorem restKept_capture (s : State) (x : FaultName) (k : Nat) : RestKept s (s.capture x k) := restKept_captureAs s x k _

theorem restKept_capacityEvent (s : State) (c : Chan) : RestKept s (s.capacityEvent c) := by rw [capacityEvent_eq]

theorem restKept_noteChannel (s : State) (c : Chan) (old new : Channel) : RestKept s (s.noteChannel c old new) := by
  have hnote : RestKept s (if channelNoted old new then s.occurMember srcChannel c.val else s) := by split <;> rfl
  exact hnote.trans (restKept_foldl (fun u x => restKept_capture u x c.val) _ _)

theorem linesMove_queueReply (s : State) (c : Chan) : LinesMove s (s.queueReply c) := by
  unfold State.queueReply
  dsimp only
  split
  · exact (linesMove_setLine s _ _).trans (linesMove_raiseLine _ _ _)
  · rfl

theorem linesMove_takeFetch (s : State) (c : Chan) (ready fault limit : Bool) (measured : Nat) :
    LinesMove s (s.takeFetch c ready fault limit measured) := by
  unfold State.takeFetch
  dsimp only
  split
  · have hset : RestKept s (s.setChannel c (s.fetched c ready fault limit measured)) := rfl
    refine LinesMove.trans (RestKept.linesMove (RestKept.trans ?_ (restKept_noteChannel _ c _ _))) (linesMove_queueReply _ c)
    split
    · exact hset.trans (restKept_capacityEvent _ c)
    · exact hset
  · rfl

theorem linesMove_fetchFrame (s : State) (l : LineNo) (bs : List Byte) : LinesMove s (s.fetchFrame l bs) := by
  unfold State.fetchFrame
  dsimp only
  split
  · split
    · exact (linesMove_setLine s l _).trans (linesMove_takeFetch _ _ _ _ _ _)
    · exact linesMove_giveUp s l flagCheck
  · rfl

theorem linesMove_receiveByte (s : State) (l : LineNo) (b : Byte) : LinesMove s (s.receiveByte l b) := by
  cases h : (s.line l).receiver with
  | hunting => rw [receiveByte_hunting h]; split <;> rfl
  | receiving taken =>
    rw [receiveByte_receiving h]
    split
    · exact linesMove_fetchFrame s l _
    · rfl
  | sending frame n =>
    rw [receiveByte_sending h]
    split
    · split <;> rfl
    · exact linesMove_giveUp s l _

theorem lineCharacter_resetState (s : State) (l : LineNo) (b : Byte) : (s.lineCharacter l b).resetState = s.resetState := by
  cases h : s.underway.lines.get l with
  | true => rw [State.lineCharacter, hearLine_underway h]; rfl
  | false => rw [lineCharacter_clear h]; exact (linesMove_receiveByte s l b).resetState

/-! ## Bad frames (R121 to R123, R129, R141, R77 to R81) -/

section
variable {s : State} (hup : s.up) {l : LineNo}
include hup

theorem exec_collision : exec (.collision l) s = .next (match (s.line l).receiver with
    | .sending _ _ => s.giveUp l flagCollision
    | _ => s) := by
  rw [exec, execCollision, whileRunning_up hup] <;> rfl

theorem exec_fetchTimeLimit : exec (.fetchTimeLimit l) s = .next (match (s.line l).receiver with
    | .receiving _ => s.giveUp l flagFraming
    | _ => s) := by
  rw [exec, execFetchTimeLimit, whileRunning_up hup] <;> rfl

theorem exec_fetchDiscard : exec (.fetchDiscard l) s = .next (match (s.line l).receiver with
    | .sending _ _ => s
    | _ => if s.underway.lines.get l then s else s.giveUp l flagCheck) := by
  rw [exec, execFetchDiscard, whileRunning_up hup] <;> rfl

theorem exec_rectifierCharacterError (hclear : s.underway.lines.get l = false) (d : CharFault) :
    exec (.rectifierCharacterError l d) s = .next (match (s.line l).receiver with
      | .sending _ _ => s.giveUp l flagCollision
      | _ => s.giveUp l (damageFlags d)) := by
  rw [exec, execRectifierCharacterError, whileRunning_up hup, hearLine_clear hclear] <;> rfl

theorem exec_gridCharacterError (hclear : s.underway.grid = false) (d : CharFault) :
    exec (.gridCharacterError d) s = .next (s.giveUpGrid (damageFlags d)) := by
  rw [exec, execGridCharacterError, whileRunning_up hup, hearGrid_clear hclear]

theorem exec_gridFrameTimeLimit : exec .gridFrameTimeLimit s = .next (match s.grid.receiver with
    | .hunting => s
    | .receiving _ => s.giveUpGrid flagFraming) := by
  rw [exec, execGridFrameTimeLimit, whileRunning_up hup] <;> rfl

theorem exec_replyBegin : exec (.replyBegin l) s = .next (match (s.line l).receiver, (s.line l).reply with
    | .hunting, some c => s.beginReply l c
    | _, _ => s) := by
  rw [exec, execReplyBegin, whileRunning_up hup] <;> rfl

theorem exec_grantComplete : exec (.grantComplete l) s = .next (match (s.line l).receiver with
    | .sending _ _ => s.setLine l { s.line l with receiver := .hunting }
    | _ => s) := by
  rw [exec, execGrantComplete, whileRunning_up hup] <;> rfl

end

/-- R121 to R123, R129, R141: what may go wrong on a rectifier line, by where its receiver stands. -/
theorem rectifier_faults {s : State} (hup : s.up) (l : LineNo) {r : Receiver} (hr : (s.line l).receiver = r) :
    ((∀ frame k, r ≠ .sending frame k) → exec (.collision l) s = .next s)
    ∧ ((∀ frame k, r ≠ .sending frame k) → s.hears l →
      (∃ t : State, exec (.fetchDiscard l) s = .next t ∧ LineFault s t l 0x04)
      ∧ (∃ t : State, exec (.rectifierCharacterError l .parity) s = .next t ∧ LineFault s t l 0x01)
      ∧ (∃ t : State, exec (.rectifierCharacterError l .framing) s = .next t ∧ LineFault s t l 0x02)
      ∧ ∃ t : State, exec (.rectifierCharacterError l .both) s = .next t ∧ LineFault s t l 0x03)
    ∧ (∀ frame k, r = .sending frame k →
      exec (.fetchDiscard l) s = .next s
      ∧ (s.hears l → ∀ d : CharFault, ∃ t : State, exec (.rectifierCharacterError l d) s = .next t ∧ LineFault s t l 0x08)
      ∧ ∃ t : State, exec (.collision l) s = .next t ∧ LineFault s t l 0x08)
    ∧ (∀ taken, r = .receiving taken → ∃ t : State, exec (.fetchTimeLimit l) s = .next t ∧ LineFault s t l 0x02)
    ∧ ((∀ taken, r ≠ .receiving taken) → exec (.fetchTimeLimit l) s = .next s) := by
  have hgive := lineFault_giveUp s l
  cases r with
  | sending frame n =>
    refine ⟨fun h => absurd rfl (h frame n), fun h => absurd rfl (h frame n), fun _ _ _ => ⟨?_, fun hears d => ⟨_, ?_, hgive 0x08⟩, _, ?_, hgive 0x08⟩,
      fun _ h => (nomatch h), fun _ => ?_⟩
    · simp only [exec_fetchDiscard hup, hr]
    · simp only [exec_rectifierCharacterError hup hears.2, hr]; rfl
    · simp only [exec_collision hup, hr]; rfl
    · simp only [exec_fetchTimeLimit hup, hr]
  | hunting =>
    refine ⟨fun _ => ?_, fun _ hears => ⟨⟨_, ?_, hgive 0x04⟩, ⟨_, ?_, hgive 0x01⟩, ⟨_, ?_, hgive 0x02⟩, _, ?_, hgive 0x03⟩,
      fun _ _ h => (nomatch h), fun _ h => (nomatch h), fun _ => ?_⟩
    · simp only [exec_collision hup, hr]
    · simp only [exec_fetchDiscard hup, hr, hears.2, Bool.false_eq_true, if_false]; rfl
    · simp only [exec_rectifierCharacterError hup hears.2, hr]; rfl
    · simp only [exec_rectifierCharacterError hup hears.2, hr]; rfl
    · simp only [exec_rectifierCharacterError hup hears.2, hr]; rfl
    · simp only [exec_fetchTimeLimit hup, hr]
  | receiving taken =>
    refine ⟨fun _ => ?_, fun _ hears => ⟨⟨_, ?_, hgive 0x04⟩, ⟨_, ?_, hgive 0x01⟩, ⟨_, ?_, hgive 0x02⟩, _, ?_, hgive 0x03⟩,
      fun _ _ h => (nomatch h), fun _ _ => ⟨_, ?_, hgive 0x02⟩, fun h => absurd rfl (h taken)⟩
    · simp only [exec_collision hup, hr]
    · simp only [exec_fetchDiscard hup, hr, hears.2, Bool.false_eq_true, if_false]; rfl
    · simp only [exec_rectifierCharacterError hup hears.2, hr]; rfl
    · simp only [exec_rectifierCharacterError hup hears.2, hr]; rfl
    · simp only [exec_rectifierCharacterError hup hears.2, hr]; rfl
    · simp only [exec_fetchTimeLimit hup, hr]; rfl

/-- Settles O43: the rectifier lines by `rectifier_faults`, the grid line by what a complete frame or its giving up does. -/
theorem badFramesAreFlagged : Obligations.BadFramesAreFlagged := by
  refine ⟨fun l s hup r hr => rectifier_faults hup l hr.symm, fun s hup => ⟨fun second check v u d frame hears hr hframe =>
    ⟨fun hsum => ⟨_, ?_, gridFault_giveUpGrid s 0x04⟩, fun hsum hvalid => ?_⟩, fun taken hr => ⟨_, ?_, gridFault_giveUpGrid s 0x02⟩,
    fun hr => ?_, fun hears => ⟨_, exec_gridCharacterError hup hears.2 .parity, gridFault_giveUpGrid s 0x01⟩,
    fun hears => ⟨_, exec_gridCharacterError hup hears.2 .framing, gridFault_giveUpGrid s 0x02⟩,
    fun hears => ⟨_, exec_gridCharacterError hup hears.2 .both, gridFault_giveUpGrid s 0x03⟩⟩⟩
  · rw [hframe, ← gridBytes_eq] at hsum
    rw [exec_gridFrame_hunting hears hr, gridFrameDone_eq, if_neg hsum]; rfl
  · rw [hframe, ← gridBytes_eq] at hsum
    rw [exec_gridFrame_hunting hears hr, gridFrameDone_eq, if_pos hsum, bitOf_eq, if_neg (by rw [hvalid]; exact Bool.false_ne_true), setGrid_hunting hr]
  · simp only [exec_gridFrameTimeLimit hup, hr]; rfl
  · simp only [exec_gridFrameTimeLimit hup, hr]

/-! ## The reply (R125, R127, R128, R203) -/

theorem checkSum_checkByte (bs : List Byte) : checkSum (bs ++ [checkByte bs]) = 0 := by
  simp only [checkSum, checkByte, List.map_append, List.sum_append, List.map_cons, List.map_nil, List.sum_cons, List.sum_nil, toNat_byteOf]
  omega

/-- R203: the five bytes of a GRANT, the last of which makes the sum 0. -/
theorem grantBytes_eq (address : Nat) (mode : GrantMode) (share n : Nat) : ∃ check : Byte, checkSum (grantBytes address mode share n) = 0
    ∧ grantBytes address mode share n
      = [byteOf (0xE0 + address), byteOf (32 * modeCode mode + share / 256), byteOf share, byteOf n, check] :=
  ⟨_, checkSum_checkByte [_, _, _, _], rfl⟩

theorem exec_replyBegin_hunting {s : State} (hup : s.up) {l : LineNo} {c : Chan} (hr : (s.line l).receiver = .hunting)
    (hc : (s.line l).reply = some c) : exec (.replyBegin l) s = .next (s.beginReply l c) := by
  simp only [exec_replyBegin hup, hr, hc]

/-- R128: the answer to a feeder of a live record. -/
theorem replyOf_bound {s : State} {x : Channel} {i : Slot} (hx : x.owner = some i) (hlive : (s.record i).state ≠ .free) : s.replyOf x
    = if (s.record i).state = .engaging then (.engage, 0)
      else if (s.record i).state = .active then
        if x.condition = .online then
          (if s.seq.state = .normal ∨ s.seq.state = .confirming ∨ s.seq.state = .restoring then .run else .ride, x.share)
        else if x.condition = .stale then (.standby, x.share)
        else (.standby, 0)
      else if (s.record i).state = .releasing ∧ 0 < (s.record i).present then (.run, x.share)
      else (.opened, 0) := by
  simp only [State.replyOf, hx]
  cases hst : (s.record i).state
  case free => exact absurd hst hlive
  case active =>
    by_cases hon : x.condition = .online
    · cases hq : s.seq.state <;> simp [hon]
    · by_cases hs : x.condition = .stale <;> simp [hs, hon]
  case releasing => by_cases hp : 0 < (s.record i).present <;> simp [hp]
  all_goals simp

/-- Settles O44: the bytes of a reply by `replyOf_bound` and its check byte, the outputs by `driverEnable_iff`. -/
theorem replyCarriesGrant : Obligations.ReplyCarriesGrant := by
  intro l s
  refine ⟨fun c hup hr hc x hx send hsend => ⟨fun hown => ?_, fun i r hown hrec hlive mode share hans => ?_⟩, fun hup h => ?_,
    fun frame k hup hr => ?_, fun hup hr => ?_, fun frame k b hup hr hb => ⟨?_, ?_⟩, fun h => ?_⟩
  · have hans : s.replyOf (s.channel c) = (.idle, 0) := by simp only [State.replyOf, ← hx, hown]
    obtain ⟨check, hsum, hbytes⟩ := grantBytes_eq (c.val % 4) .idle 0 s.engine.pubNumber
    exact ⟨check, by rw [hsend, ← hbytes, hsum], by rw [exec_replyBegin_hunting hup hr hc, State.beginReply, hans, hsend, ← hbytes]⟩
  · subst hx hrec
    have hans' : s.replyOf (s.channel c) = (mode, share) := (replyOf_bound hown hlive).trans hans.symm
    obtain ⟨check, hsum, hbytes⟩ := grantBytes_eq (c.val % 4) mode share s.engine.pubNumber
    exact ⟨check, by rw [hsend, ← hbytes, hsum], by rw [exec_replyBegin_hunting hup hr hc, State.beginReply, hans', hsend, ← hbytes]⟩
  · rw [exec_replyBegin hup]
    split
    next hr hc =>
      rcases h with h | h
      · exact absurd hr h
      · rw [hc] at h; cases h
    next => rfl
  · simp only [exec_grantComplete hup, hr]
  · rw [exec_grantComplete hup]
    split
    next h => exact absurd h (hr _ _)
    next => rfl
  · exact (driverEnable_iff s l).mpr ⟨hup, frame, k, hr⟩
  · rw [txOutput_sending hup hr, List.getD_eq_getElem?_getD, hb, Option.getD_some]
  · have hoff : s.driverEnable l = false := by
      rw [Bool.eq_false_iff, Ne, driverEnable_iff]
      rintro ⟨hup, frame, n, hr⟩
      rcases h with h | h
      · exact h hup
      · exact h frame n hr
    exact ⟨hoff, txOutput_high hoff⟩

/-! ## Characters (R120, R123, R129, R76) -/

/-- R123: the last byte of a frame on a rectifier line. -/
theorem exec_lastByte {s : State} {l : LineNo} (hears : s.hears l) {lead status low : Byte}
    (hr : (s.line l).receiver = .receiving [lead, status, low]) (check : Byte) :
    exec (.rectifierLineCharacter l check) s = .next (s.fetchFrame l [lead, status, low, check]) := by
  rw [exec_rectifierLineCharacter hears, receiveByte_receiving hr, if_pos (by rfl)]
  rfl

theorem checkSum_four (a b c d : Byte) : checkSum [a, b, c, d] = (a.toNat + b.toNat + c.toNat + d.toNat) % 256 := by
  simp only [checkSum, List.map_cons, List.map_nil, List.sum_cons, List.sum_nil, Nat.add_zero, Nat.add_assoc]

/-- R123, R124: a frame that checks is the row FETCH of the channel and the values it carries. -/
theorem lastByte_fetch {s : State} {l : LineNo} (hears : s.hears l) {lead status low check : Byte}
    (hr : (s.line l).receiver = .receiving [lead, status, low])
    (hsum : (lead.toNat + status.toNat + low.toNat + check.toNat) % 256 = 0) (h1 : 0xC0 ≤ lead.toNat) (h2 : lead.toNat ≤ 0xC3) :
    ∃ (c : Chan) (m : BitVec 12), c.val = 4 * l.val + lead.toNat % 4 ∧ m.toNat = status.toNat % 16 * 256 + low.toNat
      ∧ exec (.rectifierLineCharacter l check) s = exec (.fetch c (status.getLsbD 7) (status.getLsbD 6) (status.getLsbD 5) m)
          (s.setLine l { s.line l with receiver := .hunting }) := by
  have hlow := low.isLt
  have hm : (BitVec.ofNat 12 (status.toNat % 16 * 256 + low.toNat)).toNat = status.toNat % 16 * 256 + low.toNat := by
    rw [BitVec.toNat_ofNat]; omega
  have hline : lineOf (chanAt l (Fin.ofNat 4 lead.toNat)) = l := by
    apply Fin.ext
    show (4 * l.val + lead.toNat % 4) / 4 = l.val
    omega
  refine ⟨chanAt l (Fin.ofNat 4 lead.toNat), BitVec.ofNat 12 (status.toNat % 16 * 256 + low.toNat), rfl, hm, ?_⟩
  rw [exec_lastByte hears hr, fetchFrame_eq, if_pos (by rw [checkSum_four]; exact hsum), exec_fetch_hunting ?_ ?_, hm, bitOf_eq, bitOf_eq, bitOf_eq]
  · rw [hline]; exact hears
  · rw [hline, line_setLine_self]

/-- R120, R205: the row FETCH is its characters, one after the other, or those still to come. -/
theorem exec_fetch_characters {s : State} (hup : s.up) (c : Chan) (ready fault limit : Bool) (m : BitVec 12) {rest : List Byte}
    (h : stillToCome (s.line (lineOf c)).receiver.taken (fetchBytes c ready fault limit m) = rest) :
    exec (.fetch c ready fault limit m) s = rest.foldl (fun out b => match out with
      | .next u => exec (.rectifierLineCharacter (lineOf c) b) u
      | out => out) (.next s) := by
  have hstep : ∀ (u : State) (b : Byte), exec (.rectifierLineCharacter (lineOf c) b) u
      = .next (if u.resetState = .running then u.lineCharacter (lineOf c) b else u) := fun u b => rfl
  have hfold : ∀ (bs : List Byte) (u : State), u.up →
      bs.foldl (fun u b => if u.resetState = .running then u.lineCharacter (lineOf c) b else u) u = u.lineCharacters (lineOf c) bs := by
    intro bs
    induction bs with
    | nil => intro u _; rfl
    | cons b bs ih =>
      intro u hu
      rw [List.foldl_cons, if_pos hu, ih _ ((lineCharacter_resetState u _ b).trans hu)]
      rfl
  rw [exec_fetch hup, h, ← hfold rest s hup]
  exact (foldl_exec (k := fun b => .rectifierLineCharacter (lineOf c) b) hstep rest s).symm

theorem taken_stillToCome {r : Receiver} {frame rest taken : List Byte}
    (h : (r = .receiving taken ∧ rest ≠ [] ∧ frame = taken ++ rest)
      ∨ ((∀ (ts rs : List Byte), r = .receiving ts → rs ≠ [] → frame ≠ ts ++ rs) ∧ rest = frame)) : stillToCome r.taken frame = rest := by
  rcases h with ⟨rfl, hne, rfl⟩ | ⟨h, rfl⟩
  · exact stillToCome_rest hne
  · cases r with
    | receiving ts => exact stillToCome_all fun rs hrs => h ts rs rfl hrs
    | hunting => exact stillToCome_nil _
    | sending frame n => exact stillToCome_nil _

theorem gridTaken_stillToCome {r : GridReceiver} {frame rest taken : List Byte}
    (h : (r = .receiving taken ∧ rest ≠ [] ∧ frame = taken ++ rest)
      ∨ ((∀ (ts rs : List Byte), r = .receiving ts → rs ≠ [] → frame ≠ ts ++ rs) ∧ rest = frame)) : stillToCome r.taken frame = rest := by
  rcases h with ⟨rfl, hne, rfl⟩ | ⟨h, rfl⟩
  · exact stillToCome_rest hne
  · cases r with
    | receiving ts => exact stillToCome_all fun rs hrs => h ts rs rfl hrs
    | hunting => exact stillToCome_nil _

/-! ## What the characters of the grid line leave as it was -/

/-- From `s` to `t` nothing changes but records, the Sequencer, attention and the port. -/
abbrev SeqMove (s t : State) : Prop := { t with table := s.table, seq := s.seq, attention := s.attention, port := s.port } = s

theorem SeqMove.trans {s t u : State} (h : SeqMove s t) (k : SeqMove t u) : SeqMove s u :=
  (congrArg (fun x : State => { x with table := s.table, seq := s.seq, attention := s.attention, port := s.port }) k).trans h

theorem SeqMove.resetState {s t : State} (h : SeqMove s t) : t.resetState = s.resetState := by
  have e := congrArg State.resetState h
  exact e

theorem seqMove_setSeq (s : State) (x : Sequencer) : SeqMove s (s.setSeq x) := rfl

theorem seqMove_enterRiding (s : State) (q : ProfileNo) (voltage : Nat) : SeqMove s (s.enterRiding q voltage) := by
  rw [enterRiding_eq]; rfl

theorem seqMove_rideSnapshot (s : State) : SeqMove s s.rideSnapshot := by
  rw [rideSnapshot_eq]
  generalize s.current = k
  rfl

theorem seqMove_frameInHold (s : State) (m : Option ProfileNo) (voltage : Nat) : SeqMove s (s.frameInHold m voltage).1 := by
  cases m with
  | none => rfl
  | some q => exact seqMove_enterRiding s _ voltage

theorem seqMove_confirmRun (s : State) (c : ProfileNo) (n voltage : Nat) : SeqMove s (s.confirmRun c n voltage).1 := by
  unfold State.confirmRun
  split
  · exact (seqMove_rideSnapshot s).trans (seqMove_enterRiding _ c voltage)
  · exact seqMove_setSeq s _

theorem seqMove_frameInRiding (s : State) (m : Option ProfileNo) (voltage : Nat) : SeqMove s (s.frameInRiding m voltage).1 := by
  cases m with
  | none => exact seqMove_setSeq s _
  | some q =>
    unfold State.frameInRiding
    dsimp only
    split
    · rfl
    · split <;> rfl

theorem seqMove_frameInBlind (s : State) (m : Option ProfileNo) (voltage : Nat) : SeqMove s (s.frameInBlind m voltage).1 := by
  unfold State.frameInBlind
  split
  · have hnormal : SeqMove s s.reachNormal := rfl
    cases m with
    | none => exact hnormal
    | some q => exact hnormal.trans (seqMove_confirmRun s.reachNormal q 1 voltage)
  · exact (seqMove_setSeq s _).trans (seqMove_frameInHold (s.enterHolding 8) m voltage)

/-- R97 to R115: a frame reaches records, the Sequencer, attention and the port alone. -/
theorem seqMove_seqFrame (s : State) (m : Option ProfileNo) (gap : Bool) (voltage : Nat) : SeqMove s (s.seqFrame m gap voltage).1 := by
  cases hst : s.seq.state with
  | normal =>
    rw [seqFrame_normal hst]
    cases m with
    | none => rfl
    | some q => exact seqMove_confirmRun s q 1 voltage
  | confirming =>
    rw [seqFrame_confirming hst]
    cases m with
    | none => exact seqMove_setSeq s _
    | some q => cases gap <;> exact seqMove_confirmRun s _ _ voltage
  | riding => rw [seqFrame_riding hst]; exact seqMove_frameInRiding s m voltage
  | holding => rw [seqFrame_hold (.inl hst)]; exact seqMove_frameInHold s m voltage
  | latched => rw [seqFrame_hold (.inr hst)]; exact seqMove_frameInHold s m voltage
  | restoring =>
    rw [seqFrame_restoring hst]
    cases m with
    | none => rfl
    | some q =>
      rw [frameInRestoring_some]
      exact (seqMove_setSeq s _).trans (seqMove_enterRiding _ q voltage)
  | blind => rw [seqFrame_blind hst]; exact seqMove_frameInBlind s m voltage

theorem gridFrameDone_resetState (s : State) (bs : List Byte) : (s.gridFrameDone bs).resetState = s.resetState := by
  have hvalid : ∀ (t : State) (sequence : Nat) (pj : Bool) (v u : Nat) (d : Int), (t.validFrame sequence pj v u d).resetState = t.resetState :=
    fun t sequence pj v u d => by
      rw [State.validFrame, apply_eq]
      exact (seqMove_seqFrame _ _ _ _).resetState
  have hgive : (s.giveUpGrid flagCheck).resetState = s.resetState := by
    obtain ⟨-, h, h'⟩ := gridFault_giveUpGrid s flagCheck
    by_cases hf : s.grid.flags ||| flagCheck = s.grid.flags
    · have e := congrArg State.resetState (h hf)
      exact e
    · have e := congrArg State.resetState (h' hf)
      exact e.trans (restKept_capture _ _ _).resetState
  unfold State.gridFrameDone
  dsimp only
  split
  · split
    · split
      · exact hvalid _ _ _ _ _ _
      · exact (restKept_capture _ _ _).resetState
    · exact hgive
  · rfl

theorem gridCharacter_resetState (s : State) (b : Byte) : (s.gridCharacter b).resetState = s.resetState := by
  cases h : s.underway.grid with
  | true => rw [State.gridCharacter, hearGrid_underway h]; rfl
  | false =>
    rw [gridCharacter_clear h]
    cases hr : s.grid.receiver with
    | hunting => rw [receiveGridByte_hunting hr]; split <;> rfl
    | receiving taken =>
      rw [receiveGridByte_receiving hr]
      split
      · exact gridFrameDone_resetState s _
      · rfl

/-- R76, R205: the row GRID_FRAME is its characters, one after the other, or those still to come. -/
theorem exec_gridFrame_characters {s : State} (hup : s.up) (second : Byte) (v u d : Word) (check : Byte) {rest : List Byte}
    (h : stillToCome s.grid.receiver.taken (gridBytes second v u d check) = rest) :
    exec (.gridFrame second v u d check) s = rest.foldl (fun out b => match out with
      | .next w => exec (.gridLineCharacter b) w
      | out => out) (.next s) := by
  have hstep : ∀ (u : State) (b : Byte), exec (.gridLineCharacter b) u = .next (if u.resetState = .running then u.gridCharacter b else u) :=
    fun u b => rfl
  have hfold : ∀ (bs : List Byte) (u : State), u.up →
      bs.foldl (fun u b => if u.resetState = .running then u.gridCharacter b else u) u = bs.foldl State.gridCharacter u := by
    intro bs
    induction bs with
    | nil => intro u _; rfl
    | cons b bs ih =>
      intro u hu
      rw [List.foldl_cons, if_pos hu, ih _ ((gridCharacter_resetState u b).trans hu)]
      rfl
  rw [exec_gridFrame hup, h, ← hfold rest s hup]
  exact (foldl_exec (k := fun b => .gridLineCharacter b) hstep rest s).symm

/-- R120, R129: what a character does on a rectifier line but the last of a frame. -/
theorem rectifier_characters {s : State} {l : LineNo} (hears : s.hears l) (b : Byte) :
    ((s.line l).receiver = .hunting →
      (0xC0 ≤ b.toNat ∧ b.toNat ≤ 0xC3 →
        exec (.rectifierLineCharacter l b) s = .next (s.setLine l { s.line l with receiver := .receiving [b] }))
      ∧ (b.toNat < 0xC0 ∨ 0xC3 < b.toNat → exec (.rectifierLineCharacter l b) s = .next s))
    ∧ (∀ taken, (s.line l).receiver = .receiving taken → taken.length ≠ 3 →
      exec (.rectifierLineCharacter l b) s = .next (s.setLine l { s.line l with receiver := .receiving (taken ++ [b]) }))
    ∧ ∀ frame k, (s.line l).receiver = .sending frame k →
      (frame[k]? = some b → k + 1 < frame.length →
        exec (.rectifierLineCharacter l b) s = .next (s.setLine l { s.line l with receiver := .sending frame (k + 1) }))
      ∧ (frame[k]? = some b → k + 1 = frame.length →
        exec (.rectifierLineCharacter l b) s = .next (s.setLine l { s.line l with receiver := .hunting }))
      ∧ (frame[k]? ≠ some b → ∃ t : State, exec (.rectifierLineCharacter l b) s = .next t ∧ LineFault s t l 0x08) := by
  rw [exec_rectifierLineCharacter hears]
  refine ⟨fun hr => ?_, fun taken hr hlen => ?_, fun frame k hr => ?_⟩
  · rw [receiveByte_hunting hr]
    refine ⟨fun h => ?_, fun h => ?_⟩
    · rw [if_pos ((isFetchLead_iff b).mpr h)]
    · rw [if_neg fun h' => by have := (isFetchLead_iff b).mp h'; omega]
  · rw [receiveByte_receiving hr, if_neg hlen]
  · rw [receiveByte_sending hr]
    refine ⟨fun hb hlt => ?_, fun hb hlast => ?_, fun hb => ⟨_, ?_, lineFault_giveUp s l 0x08⟩⟩
    · rw [if_pos hb, if_neg (by omega)]
    · rw [if_pos hb, if_pos (by omega)]
    · rw [if_neg hb]; rfl

/-- Settles O46: a character by `rectifier_characters` and `lastByte_fetch`, the rows FETCH and GRID_FRAME by the characters they stand for. -/
theorem charactersMakeFrames : Obligations.CharactersMakeFrames := by
  intro s hup
  refine ⟨fun l b hears hr => (rectifier_characters hears b).1 hr, fun l b taken hears hr hlen => (rectifier_characters hears b).2.1 taken hr hlen,
    fun l lead status low check hears hr h1 h2 => ⟨fun hsum => lastByte_fetch hears hr hsum h1 h2, fun hsum => ⟨_, ?_, lineFault_giveUp s l 0x04⟩⟩,
    fun l b frame k hears hr => (rectifier_characters hears b).2.2 frame k hr,
    fun c ready fault limit m rest taken h => exec_fetch_characters hup c ready fault limit m (taken_stillToCome h),
    fun b hears hr => ⟨fun hb => ?_, fun hb => ?_⟩, fun b taken hears hr hlen => ?_, fun second check v u d hears hr => ?_,
    fun second check v u d frame rest taken hframe h => ?_⟩
  · rw [exec_lastByte hears hr, fetchFrame_eq, if_neg (by rw [checkSum_four]; exact hsum)]; rfl
  · rw [exec_gridLineCharacter hears, receiveGridByte_hunting hr, if_pos (by rw [hb]; decide)]; rfl
  · rw [exec_gridLineCharacter hears, receiveGridByte_hunting hr, if_neg fun h => hb (BitVec.eq_of_toNat_eq (by rw [h]; decide))]
  · rw [exec_gridLineCharacter hears, receiveGridByte_receiving hr, if_neg hlen]; rfl
  · have hears' : (s.setGrid { s.grid with receiver := .hunting }).hearsGrid := hears
    refine Eq.trans ?_ (exec_gridFrame_hunting hears' rfl second v u d check).symm
    rw [exec_gridLineCharacter hears, receiveGridByte_receiving hr, if_pos (by simp [bytes2]), gridFrameDone_setGrid, ← gridBytes_eq]
  · rw [← gridBytes_eq] at hframe
    subst hframe
    exact exec_gridFrame_characters hup second v u d check (gridTaken_stillToCome h)

end Sys2Proof.Machine

/-!
The taking of a valid grid frame (R82 to R92).
-/

namespace Sys2Proof.Machine

/-! ## The values of a frame (R82, R86, R88) -/

theorem signed16_toNat (d : Word) : signed16 d.toNat = d.toInt := by
  have := d.isLt
  rw [signed16, BitVec.toInt_eq_toNat_cond]
  split <;> split <;> omega

/-- The byte whose bits are given, from bit 7 down. -/
theorem getLsbD_bits (b7 b6 b5 b4 b3 b2 b1 b0 : Bool) {b : Byte}
    (h : b.toNat = 128 * b7.toNat + 64 * b6.toNat + 32 * b5.toNat + 16 * b4.toNat + 8 * b3.toNat + 4 * b2.toNat + 2 * b1.toNat + b0.toNat) :
    b.getLsbD 7 = b7 ∧ b.getLsbD 6 = b6 ∧ b.getLsbD 5 = b5 ∧ b.getLsbD 4 = b4 ∧ b.getLsbD 3 = b3 ∧ b.getLsbD 2 = b2
      ∧ b.getLsbD 1 = b1 ∧ b.getLsbD 0 = b0 := by
  have h7 := b7.toNat_le
  have h6 := b6.toNat_le
  have h5 := b5.toNat_le
  have h4 := b4.toNat_le
  have h3 := b3.toNat_le
  have h2 := b2.toNat_le
  have h1 := b1.toNat_le
  have h0 := b0.toNat_le
  have hbit : ∀ (k : Nat) (x : Bool), b.toNat / 2 ^ k % 2 = x.toNat → b.getLsbD k = x := fun k x hx => by
    rw [← bitOf_eq, bitOf, hx]
    cases x <;> rfl
  exact ⟨hbit 7 b7 (by omega), hbit 6 b6 (by omega), hbit 5 b5 (by omega), hbit 4 b4 (by omega), hbit 3 b3 (by omega), hbit 2 b2 (by omega),
    hbit 1 b1 (by omega), hbit 0 b0 (by omega)⟩

theorem byte_eq_of_bits {a b : Byte} (h7 : a.getLsbD 7 = b.getLsbD 7) (h6 : a.getLsbD 6 = b.getLsbD 6) (h5 : a.getLsbD 5 = b.getLsbD 5)
    (h4 : a.getLsbD 4 = b.getLsbD 4) (h3 : a.getLsbD 3 = b.getLsbD 3) (h2 : a.getLsbD 2 = b.getLsbD 2) (h1 : a.getLsbD 1 = b.getLsbD 1)
    (h0 : a.getLsbD 0 = b.getLsbD 0) : a = b := by
  refine BitVec.eq_of_getLsbD_eq fun i hi => ?_
  interval_cases i
  exacts [h0, h1, h2, h3, h4, h5, h6, h7]

theorem weight_toNat (b : Bool) (w : Nat) : (if b then w else 0) = w * b.toNat := by cases b <;> simp

/-- R86: the bits of a condition byte. -/
theorem conditionBits_bits (g : GridSettings) (v u : Nat) (d : Int) (pj : Bool) :
    (conditionBits g v u d pj).getLsbD 7 = decide (v < g.level1) ∧ (conditionBits g v u d pj).getLsbD 6 = decide (v < g.level2)
      ∧ (conditionBits g v u d pj).getLsbD 5 = decide (v < g.level3) ∧ (conditionBits g v u d pj).getLsbD 4 = decide (g.high < v)
      ∧ (conditionBits g v u d pj).getLsbD 3 = decide (d < -(g.uf : Int)) ∧ (conditionBits g v u d pj).getLsbD 2 = decide ((g.overFreq : Int) < d)
      ∧ (conditionBits g v u d pj).getLsbD 1 = decide (g.ub < u) ∧ (conditionBits g v u d pj).getLsbD 0 = pj := by
  refine getLsbD_bits _ _ _ _ _ _ _ _ ?_
  have h7 := (decide (v < g.level1)).toNat_le
  have h6 := (decide (v < g.level2)).toNat_le
  have h5 := (decide (v < g.level3)).toNat_le
  have h4 := (decide (g.high < v)).toNat_le
  have h3 := (decide (d < -(g.uf : Int))).toNat_le
  have h2 := (decide ((g.overFreq : Int) < d)).toNat_le
  have h1 := (decide (g.ub < u)).toNat_le
  have h0 := pj.toNat_le
  rw [conditionBits, toNat_byteOf]
  simp only [weight_toNat]
  omega

theorem droopFactor_int (g : GridSettings) (d : Int) :
    ((droopFactor g d : Nat) : Int) = if d < -(g.db : Int) then max (g.fmin : Int) (1000 - (g.k : Int) * (-d - (g.db : Int))) else 1000 := by
  unfold droopFactor
  split
  · exact Int.toNat_of_nonneg (le_max_of_le_left (Int.natCast_nonneg _))
  · rfl

/-! ## The match (R91, R92) -/

theorem and_eq_iff (a b m : Byte) : a &&& m = b &&& m ↔ ∀ k : Nat, k < 8 → m.getLsbD k = true → a.getLsbD k = b.getLsbD k := by
  constructor
  · intro h k _ hm
    have hk := congrArg (fun x : Byte => x.getLsbD k) h
    simpa only [BitVec.getLsbD_and, hm, Bool.and_true] using hk
  · intro h
    refine BitVec.eq_of_getLsbD_eq fun k hk => ?_
    rw [BitVec.getLsbD_and, BitVec.getLsbD_and]
    cases hm : m.getLsbD k with
    | false => rw [Bool.and_false, Bool.and_false]
    | true => rw [h k hk hm]

theorem xor_and_ne_iff (a b m : Byte) : (a ^^^ b) &&& m ≠ m ↔ ∃ k : Nat, k < 8 ∧ m.getLsbD k = true ∧ a.getLsbD k = b.getLsbD k := by
  have hbit : ∀ k, ((a ^^^ b) &&& m).getLsbD k = (xor (a.getLsbD k) (b.getLsbD k) && m.getLsbD k) := fun k => by
    rw [BitVec.getLsbD_and, BitVec.getLsbD_xor]
  constructor
  · intro h
    by_contra hno
    refine h (BitVec.eq_of_getLsbD_eq fun k hk => ?_)
    rw [hbit]
    cases hm : m.getLsbD k with
    | false => rw [Bool.and_false]
    | true =>
      have hne : a.getLsbD k ≠ b.getLsbD k := fun he => hno ⟨k, hk, hm, he⟩
      rw [Bool.and_true]
      exact bne_iff_ne.mpr hne
  · rintro ⟨k, -, hm, he⟩ h
    have hk := hbit k
    rw [h, hm, he, Bool.xor_self, Bool.false_and] at hk
    cases hk

/-- R91: the test of a profile says what the statement says of it. -/
theorem fits_iff (p : Profile) (conditions : Byte) : p.fits conditions = true ↔ Fits p conditions := by
  unfold Profile.fits Fits
  cases p.mode with
  | all => simp [and_eq_iff, and_assoc]
  | any => simp [← xor_and_ne_iff, and_assoc]

theorem mem_matchable (p : ProfileNo) : p ∈ matchable ↔ p ≠ 8 := by
  revert p; decide

/-- R92: the match is the lowest-numbered matchable profile that fits, if any does. -/
theorem matchOf_eq {s : State} {conditions : Byte} {m : Option ProfileNo}
    (hnone : m = none → ∀ p : ProfileNo, p ≠ 8 → ¬Fits (s.profile p) conditions)
    (hsome : ∀ p : ProfileNo, m = some p → p ≠ 8 ∧ Fits (s.profile p) conditions ∧ ∀ q : ProfileNo, q < p → ¬Fits (s.profile q) conditions) :
    s.matchOf conditions = m := by
  unfold State.matchOf
  cases m with
  | none =>
    refine List.find?_eq_none.mpr fun p hp hfit => ?_
    exact hnone rfl p ((mem_matchable p).mp hp) ((fits_iff _ _).mp hfit)
  | some p =>
    obtain ⟨hp, hfit, hfirst⟩ := hsome p rfl
    have hsorted : matchable.Pairwise (· < ·) := by decide
    obtain ⟨before, after, hsplit⟩ := List.append_of_mem ((mem_matchable p).mpr hp)
    refine List.find?_eq_some_iff_append.mpr ⟨(fits_iff _ _).mpr hfit, before, after, hsplit, fun q hq => ?_⟩
    rw [hsplit] at hsorted
    have hlt := (List.pairwise_append.mp hsorted).2.2 q hq p (by simp)
    rw [Bool.not_eq_true', Bool.eq_false_iff]
    exact fun hq' => hfirst q hlt ((fits_iff _ _).mp hq')

theorem gapOf_iff (ref : Option Nat) (n : Nat) : gapOf ref n = true ↔ ∃ r : Nat, ref = some r ∧ n ≠ (r + 1) % 16 := by
  cases ref with
  | none => simp [gapOf]
  | some r => simp [gapOf]

/-! ## The row GRID_FRAME on a hunting line (R82) -/

/-- R82, R118: a valid frame as one event. -/
theorem validFrame_eq {s t : State} {sequence v u : Nat} {pj gap : Bool} {d : Int} {m : Option ProfileNo}
    (ht : t = s.setGrid (s.grid.intake sequence pj v u d)) (hm : t.matchOf t.grid.conditions = m) (hgap : gapOf s.grid.seqRef sequence = gap) :
    s.validFrame sequence pj v u d = (t.seqFrame m gap t.grid.voltage).1.apply
      (if t.grid.f = s.grid.f then (t.seqFrame m gap t.grid.voltage).2 else Request.ordinary.join (t.seqFrame m gap t.grid.voltage).2) := by
  subst ht hm hgap
  have hjoin : ∀ (c : Prop) [Decidable c] (r : Request), (if c then Request.none else Request.ordinary).join r
      = if c then r else Request.ordinary.join r := by
    intro c _ r
    split
    · cases r <;> rfl
    · rfl
  rw [State.validFrame, hjoin]

/-- Settles O47: the values of the frame field by field, the match by `matchOf_eq`, the rest by `validFrame_eq`. -/
theorem gridFrameIsTaken : Obligations.GridFrameIsTaken := by
  intro second check v u d s t g vv uu f dd conditions gap m hears hr hg hsum hvalid hvv huu hdd hf h7 h6 h5 h4 h3 h2 h1 h0 hgap hnone hsome ht
  obtain ⟨c7, c6, c5, c4, c3, c2, c1, c0⟩ := conditionBits_bits g vv uu dd (second.getLsbD 1)
  have hcond : conditionBits g vv uu dd (second.getLsbD 1) = conditions :=
    byte_eq_of_bits (c7.trans h7.symm) (c6.trans h6.symm) (c5.trans h5.symm) (c4.trans h4.symm) (c3.trans h3.symm) (c2.trans h2.symm)
      (c1.trans h1.symm) (c0.trans h0.symm)
  have hfactor : droopFactor g dd = f := Int.ofNat.inj ((droopFactor_int g dd).trans hf.symm)
  have hgap' : gapOf s.grid.seqRef (second.toNat / 16) = gap := Bool.eq_iff_iff.mpr ((gapOf_iff _ _).trans hgap.symm)
  have hdev : clampDeviation d.toInt = dd := hdd.symm
  have hintake : s.grid.intake (second.toNat / 16) (second.getLsbD 1) v.toNat u.toNat d.toInt
      = { s.grid with frameSeen := true, voltage := vv, unbalance := uu, deviation := dd, sequence := second.toNat / 16,
                      pj := second.getLsbD 1, conditions := conditions, seqRef := some (second.toNat / 16), f := f,
                      silenceTimer := some g.silence } := by
    simp only [Grid.intake, hdev, ← hvv, ← huu, ← hg, hcond, hfactor]
  have ht' : t = s.setGrid (s.grid.intake (second.toNat / 16) (second.getLsbD 1) v.toNat u.toNat d.toInt) := by rw [hintake, ht]; rfl
  have hprofile : ∀ p, t.profile p = s.profile p := fun p => by rw [ht]; rfl
  have hmatch : t.matchOf t.grid.conditions = m := by
    have hc : t.grid.conditions = conditions := by rw [ht]
    rw [hc]
    exact matchOf_eq (fun hm p hp => by rw [hprofile]; exact hnone hm p hp)
      fun p hm => by simp only [hprofile]; exact hsome p hm
  have htaken := validFrame_eq ht' hmatch hgap'
  have hvt : t.grid.voltage = vv := by rw [ht]
  have hft : t.grid.f = f := by rw [ht]
  rw [hvt, hft] at htaken
  rw [← gridBytes_eq] at hsum
  rw [exec_gridFrame_hunting hears hr, gridFrameDone_eq, if_pos hsum, bitOf_eq, bitOf_eq, if_pos hvalid, setGrid_hunting hr,
    wordOf_bytes v.isLt, wordOf_bytes u.isLt, wordOf_bytes d.isLt, signed16_toNat, htaken]

end Sys2Proof.Machine

/-!
The taking of a valid FETCH (R124, R132 to R141).
-/

namespace Sys2Proof.Machine

/-! ## What a capacity event leaves of a channel, the banks and attention (R66 to R69) -/

/-- Two records of a channel that differ in the share and the frozen share alone. -/
abbrev SharesOnly (x y : Channel) : Prop := { y with share := x.share, frozen := x.frozen } = x

theorem SharesOnly.refl (x : Channel) : SharesOnly x x := rfl

theorem SharesOnly.trans {x y z : Channel} (h : SharesOnly x y) (k : SharesOnly y z) : SharesOnly x z :=
  (congrArg (fun w : Channel => { w with share := x.share, frozen := x.frozen }) k).trans h

theorem SharesOnly.owner {x y : Channel} (h : SharesOnly x y) : y.owner = x.owner := by
  have e := congrArg Channel.owner h
  exact e

theorem foldFeeders_sharesOnly {g : Feeder → Channel → Channel} (hg : ∀ f x, SharesOnly x (g f x)) (fs : List Feeder) (s : State) (c : Chan) :
    SharesOnly (s.channel c) ((fs.foldl (fun t f => t.setChannel f.channel (g f (t.channel f.channel))) s).channel c) := by
  induction fs generalizing s with
  | nil => exact SharesOnly.refl _
  | cons f fs ih =>
    refine SharesOnly.trans ?_ (ih (s.setChannel f.channel (g f (s.channel f.channel))))
    rw [channel_setChannel]
    split
    next h => rw [← h]; exact hg f _
    next => exact SharesOnly.refl _

theorem reSplit_sharesOnly (s : State) (i : Slot) (c : Chan) : SharesOnly (s.channel c) ((s.reSplit i).channel c) :=
  foldFeeders_sharesOnly (g := fun f x => x.resplit (s.placement i) f.channel)
    (fun f x => by
      have h := resplit_share (s.placement i) f.channel x
      rw [SharesOnly, h]) _ s c

theorem zeroShares_sharesOnly (s : State) (i : Slot) (c : Chan) : SharesOnly (s.channel c) ((s.zeroShares i).channel c) :=
  foldFeeders_sharesOnly (g := fun _ x => x.noShare) (fun _ _ => rfl) _ s c

theorem noteArrival_channel_eq (s : State) (i : Slot) (before : Nat) (c : Chan) : (s.noteArrival i before).channel c = s.channel c := by
  rw [noteArrival_eq]; rfl

theorem movePresent_sharesOnly (s : State) (i : Slot) (p : Nat) (c : Chan) : SharesOnly (s.channel c) ((s.movePresent i p).channel c) := by
  unfold State.movePresent
  dsimp only
  rw [noteArrival_channel_eq]
  exact reSplit_sharesOnly (s.setRecord i { s.record i with present := p }) i c

theorem faultRecord_channel_eq (s : State) (i : Slot) (x : FaultName) (c : Chan) :
    (s.faultRecord i x).channel c = (s.zeroShares i).channel c := by rw [faultRecord_eq]; rfl

/-- R67 to R69: what a capacity event may do to a record, and when. -/
theorem absorbCapacity_cases (s : State) (i : Slot) :
    (s.absorbCapacity i = s ∧ (s.record i).state ≠ .active ∧ ((s.record i).state = .releasing → (s.record i).present = 0))
    ∨ (s.absorbCapacity i = s.reSplit i ∧ ((s.record i).state = .active ∨ (s.record i).state = .releasing)
        ∧ (s.record i).floor ≤ s.carrying i ∧ (s.record i).present ≤ s.carrying i)
    ∨ (s.absorbCapacity i = s.movePresent i (s.carrying i) ∧ ((s.record i).state = .active ∨ (s.record i).state = .releasing)
        ∧ (s.record i).floor ≤ s.carrying i ∧ s.carrying i < (s.record i).present)
    ∨ (s.absorbCapacity i = s.endDescent i ∧ (s.record i).state = .releasing)
    ∨ (s.absorbCapacity i = s.faultRecord i .capacity ∧ (s.record i).state = .active) := by
  by_cases ha : (s.record i).state = .active
  · rw [absorbCapacity_active ha]
    by_cases hf : s.carrying i < (s.record i).floor
    · rw [if_pos hf]; exact .inr (.inr (.inr (.inr ⟨rfl, ha⟩)))
    · rw [if_neg hf]
      by_cases hp : s.carrying i < (s.record i).present
      · rw [if_pos hp]; exact .inr (.inr (.inl ⟨rfl, .inl ha, not_lt.mp hf, hp⟩))
      · rw [if_neg hp]; exact .inr (.inl ⟨rfl, .inl ha, not_lt.mp hf, not_lt.mp hp⟩)
  · by_cases hr : (s.record i).state = .releasing
    · rw [absorbCapacity_releasing hr]
      by_cases h0 : (s.record i).present = 0
      · rw [if_pos h0]; exact .inl ⟨rfl, ha, fun _ => h0⟩
      · rw [if_neg h0]
        by_cases hf : s.carrying i < (s.record i).floor
        · rw [if_pos hf]; exact .inr (.inr (.inr (.inl ⟨rfl, hr⟩)))
        · rw [if_neg hf]
          by_cases hp : s.carrying i < (s.record i).present
          · rw [if_pos hp]; exact .inr (.inr (.inl ⟨rfl, .inr hr, not_lt.mp hf, hp⟩))
          · rw [if_neg hp]; exact .inr (.inl ⟨rfl, .inr hr, not_lt.mp hf, not_lt.mp hp⟩)
    · exact .inl ⟨absorbCapacity_other ha hr, ha, fun h => absurd h hr⟩

theorem absorbCapacity_sharesOnly (s : State) (i : Slot) (c : Chan) : SharesOnly (s.channel c) ((s.absorbCapacity i).channel c) := by
  rcases absorbCapacity_cases s i with ⟨h, -⟩ | ⟨h, -⟩ | ⟨h, -⟩ | ⟨h, -⟩ | ⟨h, -⟩ <;> rw [h]
  · exact reSplit_sharesOnly s i c
  · exact movePresent_sharesOnly s i _ c
  · rw [endDescent_channel]; exact zeroShares_sharesOnly s i c
  · rw [faultRecord_channel_eq]; exact zeroShares_sharesOnly s i c

/-- A property of the state that a capacity event keeps where its record's part and its request keep it. -/
theorem capacityEvent_keeps {P : State → Prop} {s : State} (c : Chan) (hs : P s) (habsorb : ∀ i, P (s.absorbCapacity i).requestPass) :
    P (s.capacityEvent c) := by
  cases h : (s.channel c).owner with
  | none => rw [capacityEvent_unbound h]; exact hs
  | some i =>
    rw [capacityEvent_bound h]
    split
    · exact habsorb i
    · exact hs

theorem capacityEvent_sharesOnly (s : State) (c d : Chan) : SharesOnly (s.channel d) ((s.capacityEvent c).channel d) :=
  capacityEvent_keeps (P := fun t => SharesOnly (s.channel d) (t.channel d)) c (SharesOnly.refl _) fun i => by
    rw [requestPass_channel]; exact absorbCapacity_sharesOnly s i d

theorem faultRecord_source (s : State) (i : Slot) (x : FaultName) {k : SourceNo} (hf : k ≠ srcFault) (hd : k ≠ srcDrop) :
    (s.faultRecord i x).source k = s.source k := by
  have h : (s.faultRecord i x).source k = ((s.capture x i.val).occurMember srcDrop i.val).source k := by rw [faultRecord_eq]; rfl
  rw [h, occurMember_source, if_neg (Ne.symm hd)]
  exact captureAs_source_ne s x _ _ hf

theorem absorbCapacity_source (s : State) (i : Slot) {k : SourceNo} (hf : k ≠ srcFault) (hd : k ≠ srcDrop) (ha : k ≠ srcArrival) :
    (s.absorbCapacity i).source k = s.source k := by
  rcases absorbCapacity_cases s i with ⟨h, -⟩ | ⟨h, -⟩ | ⟨h, -⟩ | ⟨h, -⟩ | ⟨h, -⟩ <;> rw [h]
  · rw [reSplit_eq]; rfl
  · exact movePresent_source s i _ ha
  · exact endDescent_source s i k
  · exact faultRecord_source s i _ hf hd

theorem absorbCapacity_bank (s : State) (i : Slot) {b : BankNo} (hb : b ≠ 1) : (s.absorbCapacity i).bank b = s.bank b := by
  rcases absorbCapacity_cases s i with ⟨h, -⟩ | ⟨h, -⟩ | ⟨h, -⟩ | ⟨h, -⟩ | ⟨h, -⟩ <;> rw [h]
  · rw [reSplit_eq]; rfl
  · exact movePresent_bank s i _ b
  · exact endDescent_bank s i b
  · have h : (s.faultRecord i .capacity).bank b = (s.capture .capacity i.val).bank b := by rw [faultRecord_eq]; rfl
    rw [h, capture_bank]
    exact if_neg (Ne.symm hb)

theorem capacityEvent_source (s : State) (c : Chan) {k : SourceNo} (hf : k ≠ srcFault) (hd : k ≠ srcDrop) (ha : k ≠ srcArrival) :
    (s.capacityEvent c).source k = s.source k :=
  capacityEvent_keeps (P := fun t => t.source k = s.source k) c rfl fun i => by
    rw [requestPass_source]; exact absorbCapacity_source s i hf hd ha

theorem capacityEvent_bank (s : State) (c : Chan) {b : BankNo} (hb : b ≠ 1) : (s.capacityEvent c).bank b = s.bank b :=
  capacityEvent_keeps (P := fun t => t.bank b = s.bank b) c rfl fun i => by
    rw [requestPass_bank]; exact absorbCapacity_bank s i hb

/-- R66, R131: what counts as a capacity event. -/
theorem kind_eq_iff (a b : Condition) : a.kind = b.kind ↔ (a = .online ↔ b = .online) ∧ (a = .stale ↔ b = .stale) := by
  cases a <;> cases b <;> decide

theorem capacityChanged_iff (x y : Channel) : capacityChanged x y = true ↔
    ¬((x.condition = .online ↔ y.condition = .online) ∧ (x.condition = .stale ↔ y.condition = .stale)
      ∧ x.usable = y.usable ∧ x.clamp = y.clamp) := by
  rw [capacityChanged, decide_eq_true_iff, Ne, kind_eq_iff]
  tauto

/-! ## The channel record a FETCH leaves (stages 1 to 4 of R124) -/

section
variable {s : State} {c : Chan} {ready fault limit : Bool} {n : Nat}

/-- R133: a FETCH from an IDLE or TRIPPED channel is noted and does nothing else. -/
theorem fetched_still (h : (s.channel c).condition = .idle ∨ (s.channel c).condition = .tripped) : s.fetched c ready fault limit n
    = { s.channel c with lastMeasured := n, lastStatus := statusByte ready fault limit } := by
  rcases h with h | h <;> simp [State.fetched, Channel.report, Channel.limitAndTrack, h]

theorem afterFetch_moved {x : Condition} (h : ¬(x = .idle ∨ x = .tripped)) :
    x.afterFetch ready fault = if fault then .tripped else if ready then .online else .notReady := by
  cases x <;> simp_all [Condition.afterFetch]

/-- R132: what leaving STALE makes of the shares. -/
theorem released_eq (x : Channel) : x.released
    = { x with share := if x.condition = .stale then 0 else x.share, frozen := if x.condition = .stale then 0 else x.frozen } := by
  unfold Channel.released
  split <;> simp [*]

theorem report_moved (h : ¬((s.channel c).condition = .idle ∨ (s.channel c).condition = .tripped)) (t : Timing) :
    (s.channel c).report t ready fault limit n
      = if fault then { ({ s.channel c with lastMeasured := n, lastStatus := statusByte ready fault limit } : Channel).released.cleared with
          condition := .tripped, staleTimer := none, lostTimer := none }
        else if ready then { ({ s.channel c with lastMeasured := n, lastStatus := statusByte ready fault limit } : Channel).released with
          condition := .online, staleTimer := some t.staleTime, lostTimer := none }
        else { ({ s.channel c with lastMeasured := n, lastStatus := statusByte ready fault limit } : Channel).released.cleared with
          condition := .notReady, staleTimer := none, lostTimer := some t.lostTime } := by
  have hafter := afterFetch_moved (ready := ready) (fault := fault) h
  cases hc : (s.channel c).condition
  case idle => exact absurd (.inl hc) h
  case tripped => exact absurd (.inr hc) h
  all_goals
    rw [hc] at hafter
    simp only [Channel.report, hc, hafter]
    cases fault <;> cases ready <;> rfl

end

/-- R139: which channels a FETCH tests. -/
theorem tested_iff (x : Condition) : x.tested = true ↔ x = .online ∨ x = .notReady := by cases x <;> decide

/-- R138, R139: LIMIT and the tracking check of an ONLINE channel, field by field. -/
theorem limitAndTrack_online {z x : Channel} (hz : z.condition = .online) (t : Timing) (owner : RecordState) (limit : Bool) (measured : Nat)
    {late tested : Bool} {n : Nat} (htested : tested = decide (owner ≠ .free ∧ (x.condition = .online ∨ x.condition = .notReady)))
    (hlate : late = decide (measured + t.tolerance < x.share)) (hn : n = min (z.mismatch + 1) t.trackCount) :
    z.limitAndTrack x t owner limit measured = { z with
      clamp := if limit = true then (if owner = .active then some measured else z.clamp)
               else if tested = false then z.clamp
               else if late = true then (if n = t.trackCount then some measured else z.clamp) else none,
      tracking := if limit = true ∨ tested = false then z.tracking
                  else if late = true then decide (n = t.trackCount) || z.tracking else false,
      mismatch := if limit = true ∨ tested = false then z.mismatch else if late = true then n else 0 } := by
  rw [Channel.limitAndTrack, if_pos hz]
  cases limit with
  | true => by_cases ho : owner = .active <;> simp [ho]
  | false =>
    by_cases ht : owner ≠ .free ∧ x.condition.tested = true
    · have htrue : tested = true := by rw [htested, decide_eq_true ⟨ht.1, (tested_iff _).mp ht.2⟩]
      rw [if_neg Bool.false_ne_true, if_pos ht, Channel.track, htrue]
      by_cases hl : measured + t.tolerance < x.share
      · rw [if_pos hl, hlate, decide_eq_true hl, ← hn]
        by_cases hc : n = t.trackCount <;> simp [hc]
      · rw [if_neg hl, hlate, decide_eq_false hl]
        simp
    · have hfalse : tested = false := by
        rw [htested]
        exact decide_eq_false fun h => ht ⟨h.1, (tested_iff _).mpr h.2⟩
      rw [if_neg Bool.false_ne_true, if_neg ht, hfalse]
      simp

/-! ## Attention, captures and the reply of a FETCH (R137, R125, R126, R141) -/

/-- From `s` to `t` nothing changes but attention and banks. -/
abbrev MarksOnly (s t : State) : Prop := { t with attention := s.attention, banks := s.banks } = s

theorem MarksOnly.trans {s t u : State} (h : MarksOnly s t) (k : MarksOnly t u) : MarksOnly s u :=
  (congrArg (fun x : State => { x with attention := s.attention, banks := s.banks }) k).trans h

theorem MarksOnly.seq {s t : State} (h : MarksOnly s t) : t.seq = s.seq := by
  have e := congrArg State.seq h
  exact e
theorem MarksOnly.lines {s t : State} (h : MarksOnly s t) : t.lines = s.lines := by
  have e := congrArg State.lines h
  exact e
theorem MarksOnly.channels {s t : State} (h : MarksOnly s t) : t.channels = s.channels := by
  have e := congrArg State.channels h
  exact e

theorem marksOnly_captureAs (s : State) (x : FaultName) (k : Nat) (st : SeqState) : MarksOnly s (s.captureAs x k st) := by
  rw [captureAs_eq]
theorem marksOnly_captures (xs : List FaultName) (k : Nat) (s : State) : MarksOnly s (xs.foldl (fun u x => u.capture x k) s) := by
  induction xs generalizing s with
  | nil => rfl
  | cons x xs ih => exact (marksOnly_captureAs s x k _).trans (ih (s.capture x k))
theorem marksOnly_reportLine (s : State) (n : Nat) : MarksOnly s (s.reportLine n) := by rw [reportLine_eq]

/-- The state with the CHANNEL occurrence of a change of a channel's record. -/
def State.notedAt (s : State) (c : Chan) (old new : Channel) : State :=
  if channelNoted old new then s.occurMember srcChannel c.val else s

theorem marksOnly_notedAt (s : State) (c : Chan) (old new : Channel) : MarksOnly s (s.notedAt c old new) := by
  unfold State.notedAt; split <;> rfl

theorem noteChannel_eq (s : State) (c : Chan) (old new : Channel) :
    s.noteChannel c old new = (channelFaults old new).foldl (fun u x => u.capture x c.val) (s.notedAt c old new) := rfl

theorem marksOnly_noteChannel (s : State) (c : Chan) (old new : Channel) : MarksOnly s (s.noteChannel c old new) :=
  (marksOnly_notedAt s c old new).trans (marksOnly_captures _ _ _)

/-- The state with the LINE occurrence and the capture of a reply dropped (R126). -/
def State.overrunAt (s : State) (c : Chan) : State :=
  if (s.line (lineOf c)).reply ≠ none ∧ (s.line (lineOf c)).flags ||| 0x10 ≠ (s.line (lineOf c)).flags then s.reportLine (lineOf c).val else s

theorem marksOnly_overrunAt (s : State) (c : Chan) : MarksOnly s (s.overrunAt c) := by
  unfold State.overrunAt
  split
  · exact marksOnly_reportLine s _
  · rfl

/-- R125, R126: a line with a reply pending, OVERRUN set where it drops one. -/
def Line.queued (x : Line) (c : Chan) : Line :=
  { x with reply := some c, flags := if x.reply = none then x.flags else x.flags ||| 0x10 ||| 0x80 }

/-- R125, R126: a pending reply is written on its line, and one it drops is reported. -/
theorem queueReply_eq (s : State) (c : Chan) :
    s.queueReply c = { s.overrunAt c with lines := s.lines.set (lineOf c) ((s.line (lineOf c)).queued c) } := by
  have hself : (s.setLine (lineOf c) { s.line (lineOf c) with reply := some c }).line (lineOf c) = { s.line (lineOf c) with reply := some c } :=
    line_setLine_self _ _ _
  have hset := setLine_setLine s (lineOf c) { s.line (lineOf c) with reply := some c }
    { s.line (lineOf c) with reply := some c, flags := (s.line (lineOf c)).flags ||| 0x10 ||| 0x80 }
  cases hreply : (s.line (lineOf c)).reply with
  | none =>
    rw [State.overrunAt, if_neg fun h => h.1 hreply]
    simp only [State.queueReply, Line.queued, hreply, Option.isSome_none, Bool.false_eq_true, if_false, if_true]
    rfl
  | some d =>
    have hq : s.queueReply c = (s.setLine (lineOf c) { s.line (lineOf c) with reply := some c }).raiseLine (lineOf c) 0x10 := by
      simp only [State.queueReply, hreply, Option.isSome_some, if_true]
      rfl
    have hqueued : (s.line (lineOf c)).queued c
        = { s.line (lineOf c) with reply := some c, flags := (s.line (lineOf c)).flags ||| 0x10 ||| 0x80 } := by
      rw [Line.queued, if_neg (by rw [hreply]; exact Option.some_ne_none d)]
    rw [hq, hqueued]
    by_cases hf : (s.line (lineOf c)).flags ||| 0x10 = (s.line (lineOf c)).flags
    · rw [State.overrunAt, if_neg fun h => h.2 hf, raiseLine_old (by rw [hself]; exact hf), hself, hset]
      rfl
    · have hgrid : (s.reportLine (lineOf c).val).grid = s.grid := by rw [reportLine_eq]
      have e := reportLine_others s (s.setLine (lineOf c) { s.line (lineOf c) with reply := some c }).lines s.grid (lineOf c).val
      have hreport : (s.setLine (lineOf c) { s.line (lineOf c) with reply := some c }).reportLine (lineOf c).val
          = { s.reportLine (lineOf c).val with lines := (s.setLine (lineOf c) { s.line (lineOf c) with reply := some c }).lines, grid := s.grid } := e
      rw [State.overrunAt, if_pos ⟨by rw [hreply]; exact Option.some_ne_none d, hf⟩, raiseLine_new (by rw [hself]; exact hf), hself, hreport]
      have hlines := congrArg State.lines hset
      simp only [State.setLine] at hlines ⊢
      rw [hlines, ← hgrid]

/-- R195 to R197: from `s` to `t` a bank is as it was or fuller, and FAULT is raised for it exactly where it changes. -/
def FaultRaised (b : BankNo) (s t : State) : Prop :=
  (t.bank b = s.bank b ∨ (s.bank b).weight < (t.bank b).weight) ∧ Raises s t srcFault fun m => m = b.val ∧ t.bank b ≠ s.bank b

theorem faultRaised_of_eq {b : BankNo} {s t : State} (hbank : t.bank b = s.bank b) (hsource : t.source srcFault = s.source srcFault) :
    FaultRaised b s t :=
  ⟨.inl hbank, (raises_of_eq hsource).congr fun m => by simp [hbank]⟩

theorem FaultRaised.trans {b : BankNo} {s t u : State} (h : FaultRaised b s t) (k : FaultRaised b t u) : FaultRaised b s u := by
  obtain ⟨hgrow, hraise⟩ := h
  obtain ⟨kgrow, kraise⟩ := k
  refine ⟨?_, (hraise.trans kraise).congr fun m => ?_⟩
  · rcases hgrow with h1 | h1 <;> rcases kgrow with h2 | h2
    · exact .inl (h2.trans h1)
    · exact .inr (h1 ▸ h2)
    · exact .inr (h2 ▸ h1)
    · exact .inr (h1.trans h2)
  · rw [changed_iff hgrow kgrow]
    exact and_or_left.symm

theorem faultRaised_capture {b : BankNo} {x : FaultName} (hx : x.bank = b) (s : State) (k : Nat) : FaultRaised b s (s.capture x k) := by
  subst hx
  refine ⟨?_, raises_captureAs s x k s.seq.state⟩
  rw [capture_bank, if_pos rfl]
  exact FaultBank.weight_take _ _ _ _

theorem faultRaised_captures {b : BankNo} (xs : List FaultName) (hb : ∀ x ∈ xs, x.bank = b) (k : Nat) (s : State) :
    FaultRaised b s (xs.foldl (fun u x => u.capture x k) s) := by
  induction xs generalizing s with
  | nil => exact faultRaised_of_eq rfl rfl
  | cons x xs ih =>
    exact (faultRaised_capture (hb x (by simp)) s k).trans (ih (fun y hy => hb y (List.mem_cons_of_mem _ hy)) (s.capture x k))

theorem captures_source_ne (xs : List FaultName) (k : Nat) (s : State) {n : SourceNo} (h : n ≠ srcFault) :
    (xs.foldl (fun u x => u.capture x k) s).source n = s.source n := by
  induction xs generalizing s with
  | nil => rfl
  | cons x xs ih => rw [List.foldl_cons, ih, State.capture, captureAs_source_ne _ _ _ _ h]

theorem captures_bank_ne {b d : BankNo} (xs : List FaultName) (hb : ∀ x ∈ xs, x.bank = b) (k : Nat) (s : State) (h : d ≠ b) :
    (xs.foldl (fun u x => u.capture x k) s).bank d = s.bank d := by
  induction xs generalizing s with
  | nil => rfl
  | cons x xs ih =>
    rw [List.foldl_cons, ih fun y hy => hb y (List.mem_cons_of_mem _ hy), capture_bank, if_neg]
    rw [hb x (by simp)]
    exact Ne.symm h

/-! ## The reply dropped (R126, R141), part by part -/

section
variable (s : State) (c : Chan)

theorem reportLine_source_ne (n : Nat) {k : SourceNo} (hl : k ≠ srcLine) (hf : k ≠ srcFault) : (s.reportLine n).source k = s.source k := by
  rw [State.reportLine, State.capture, captureAs_source_ne _ _ _ _ hf, occurMember_source, if_neg (Ne.symm hl)]

theorem reportLine_bank (n : Nat) (b : BankNo) :
    (s.reportLine n).bank b = if 3 = b then (s.bank b).take .lineError n s.seq.state else s.bank b :=
  capture_bank (s.occurMember srcLine n) .lineError n b

theorem raises_reportLine (n : Nat) : Raises s (s.reportLine n) srcLine fun k => k = n := by
  have hcapture : ((s.occurMember srcLine n).capture .lineError n).source srcLine = (s.occurMember srcLine n).source srcLine :=
    captureAs_source_ne _ _ _ _ (by decide)
  exact ((raises_occurMember s srcLine n).trans (raises_of_eq hcapture)).congr fun k => iff_of_eq (or_false _)

theorem faultRaised_reportLine (n : Nat) : FaultRaised 3 s (s.reportLine n) :=
  (faultRaised_of_eq (s := s) (t := s.occurMember srcLine n) rfl (by rw [occurMember_source, if_neg (by decide)])).trans
    (faultRaised_capture rfl _ n)

/-- R126: whether a reply to the channel drops an older one and newly sets OVERRUN. -/
abbrev State.overruns : Prop :=
  (s.line (lineOf c)).reply ≠ none ∧ (s.line (lineOf c)).flags ||| 0x10 ≠ (s.line (lineOf c)).flags

theorem overrunAt_source_ne {k : SourceNo} (hl : k ≠ srcLine) (hf : k ≠ srcFault) : (s.overrunAt c).source k = s.source k := by
  unfold State.overrunAt
  split
  · exact reportLine_source_ne s _ hl hf
  · rfl

theorem overrunAt_bank (b : BankNo) : (s.overrunAt c).bank b
    = if 3 = b ∧ s.overruns c then (s.bank b).take .lineError (lineOf c).val s.seq.state else s.bank b := by
  by_cases h : s.overruns c
  · rw [State.overrunAt, if_pos h, reportLine_bank]
    exact if_congr ⟨fun h' => ⟨h', h⟩, And.left⟩ rfl rfl
  · rw [State.overrunAt, if_neg h, if_neg fun h' => h h'.2]

theorem raises_overrunAt : Raises s (s.overrunAt c) srcLine fun k => k = (lineOf c).val ∧ s.overruns c := by
  by_cases h : s.overruns c
  · rw [State.overrunAt, if_pos h]
    exact (raises_reportLine s _).congr fun k => ⟨fun hk => ⟨hk, h⟩, And.left⟩
  · rw [State.overrunAt, if_neg h]
    exact (raises_of_eq rfl).congr fun k => ⟨False.elim, fun h' => h h'.2⟩

theorem faultRaised_overrunAt : FaultRaised 3 s (s.overrunAt c) := by
  unfold State.overrunAt
  split
  · exact faultRaised_reportLine s _
  · exact faultRaised_of_eq rfl rfl

end

end Sys2Proof.Machine

/-!
What a valid FETCH does (O42).
-/

namespace Sys2Proof.Machine

section
variable {s : State} {c : Chan} {ready fault limit moved late tested : Bool} {m : Nat} {x y : Channel} {next : Condition}
  {owner : RecordState} {n : Nat}

theorem limitAndTrack_other {z old : Channel} (h : z.condition ≠ .online) (t : Timing) (o : RecordState) (limit : Bool) (measured : Nat) :
    z.limitAndTrack old t o limit measured = z := if_neg h

/-- R124: the channel record a FETCH leaves, field by field. -/
theorem fetched_eq (hx : x = s.channel c) (hmoved : moved = decide (x.condition ≠ .idle ∧ x.condition ≠ .tripped))
    (hnext : next = (if moved = false then x.condition else if fault = true then .tripped else if ready = true then .online else .notReady))
    (howner : owner = s.ownerState x) (htested : tested = decide (owner ≠ .free ∧ (x.condition = .online ∨ x.condition = .notReady)))
    (hlate : late = decide (m + s.timing.tolerance < x.share)) (hn : n = min (x.mismatch + 1) s.timing.trackCount)
    (hy : y =
        { enabled := x.enabled, capacity := x.capacity, owner := x.owner, condition := next,
          share := if x.condition = .stale then 0 else x.share, frozen := if x.condition = .stale then 0 else x.frozen,
          clamp := if moved = false then x.clamp else if next ≠ .online then none
                   else if limit = true then (if owner = .active then some m else x.clamp)
                   else if tested = false then x.clamp
                   else if late = true then (if n = s.timing.trackCount then some m else x.clamp) else none,
          tracking := if moved = false then x.tracking else if next ≠ .online then false
                      else if limit = true ∨ tested = false then x.tracking
                      else if late = true then decide (n = s.timing.trackCount) || x.tracking else false,
          mismatch := if moved = false then x.mismatch else if next ≠ .online then 0
                      else if limit = true ∨ tested = false then x.mismatch else if late = true then n else 0,
          lastMeasured := m,
          lastStatus := byteOf ((if ready then 128 else 0) + (if fault then 64 else 0) + if limit then 32 else 0),
          staleTimer := if moved = false then x.staleTimer else if next = .online then some s.timing.staleTime else none,
          lostTimer := if moved = false then x.lostTimer else if next = .notReady then some s.timing.lostTime else none }) :
    s.fetched c ready fault limit m = y := by
  subst hx howner hy
  by_cases hstill : (s.channel c).condition = .idle ∨ (s.channel c).condition = .tripped
  · have hm : moved = false := by
      rw [hmoved]
      exact decide_eq_false fun h => hstill.elim h.1 h.2
    have hs : (s.channel c).condition ≠ .stale := by rcases hstill with h | h <;> rw [h] <;> exact Condition.noConfusion
    rw [fetched_still hstill, hnext, hm]
    simp [hs, statusByte, statusNat]
  · have hm : moved = true := by
      rw [hmoved]
      exact decide_eq_true (not_or.mp hstill)
    rw [State.fetched, report_moved hstill]
    subst hm
    cases fault with
    | true =>
      rw [if_pos rfl, limitAndTrack_other (by exact Condition.noConfusion), hnext]
      simp [released_eq, Channel.cleared, statusByte, statusNat]
    | false =>
      cases ready with
      | false =>
        rw [if_neg Bool.false_ne_true, if_neg Bool.false_ne_true, limitAndTrack_other (by exact Condition.noConfusion), hnext]
        simp [released_eq, Channel.cleared, statusByte, statusNat]
      | true =>
        rw [if_neg Bool.false_ne_true, if_pos rfl, hnext]
        refine (limitAndTrack_online (n := n) (by rfl) s.timing _ limit m htested hlate (by rw [hn, released_eq])).trans ?_
        simp [released_eq, statusByte, statusNat]

/-- R137: the CHANNEL occurrence of a FETCH. -/
theorem channelNoted_fetch (hnext : y.condition = x.condition ∨ y.condition = .tripped ∨ y.condition = .online ∨ y.condition = .notReady) :
    channelNoted x y = true ↔ (y.condition ≠ x.condition ∧ (y.condition = .tripped ∨ y.condition = .notReady))
      ∨ (x.tracking = false ∧ y.tracking = true) := by
  have hentered : (match y.condition with
      | .stale => true
      | .lost => true
      | .tripped => true
      | .notReady => true
      | _ => false) = true ↔ y.condition = .stale ∨ y.condition = .lost ∨ y.condition = .tripped ∨ y.condition = .notReady := by
    cases y.condition <;> decide
  have hsplit : channelNoted x y = true ↔ (x.condition ≠ y.condition ∧ (y.condition = .stale ∨ y.condition = .lost
      ∨ y.condition = .tripped ∨ y.condition = .notReady)) ∨ (x.tracking = false ∧ y.tracking = true) := by
    rw [← hentered]
    simp only [channelNoted, Bool.or_eq_true, Bool.and_eq_true, decide_eq_true_eq, Bool.not_eq_true'] <;> rfl
  rw [hsplit, ne_comm (a := x.condition)]
  rcases hnext with h | h | h | h <;> rw [h] <;> simp

/-- R137: the captures of a FETCH; entry to TRIPPED takes the tracking flag away. -/
theorem channelFaults_fetch (hnext : y.condition = x.condition ∨ y.condition = .tripped ∨ y.condition = .online ∨ y.condition = .notReady)
    (htracking : y.condition ≠ x.condition → y.condition = .tripped → y.tracking = false) : channelFaults x y
      = if y.condition ≠ x.condition ∧ y.condition = .tripped then [.tripped]
        else if x.tracking = false ∧ y.tracking = true then [.tracking] else [] := by
  have hlost : ¬(x.condition ≠ y.condition ∧ y.condition = .lost) := by
    rintro ⟨hne, hl⟩
    rcases hnext with h | h | h | h
    · exact hne h.symm
    all_goals rw [h] at hl; cases hl
  rw [channelFaults, if_neg hlost, List.append_nil]
  by_cases h : y.condition ≠ x.condition ∧ y.condition = .tripped
  · rw [if_pos h, if_pos ⟨Ne.symm h.1, h.2⟩, htracking h.1 h.2, if_neg (by simp)]
    rfl
  · rw [if_neg h, if_neg fun h' => h ⟨Ne.symm h'.1, h'.2⟩]
    rfl

end

/-- Settles O42: the channel record by `fetched_eq`; attention, banks and lines by the CHANNEL occurrence, the captures and the reply in turn. -/
theorem fetchReportsChannel : Obligations.FetchReportsChannel := by
  intro c ready fault limit m s x y next owner moved late tested n l hears hl hr hx hmoved hnext howner htested hlate hn hy
  have howner' : owner = s.ownerState x := howner
  have hfetched := fetched_eq hx hmoved hnext howner' htested hlate hn hy
  have hycond : y.condition = next := by rw [hy]
  subst hl
  rw [exec_fetch_hunting hears hr]
  refine ⟨fun hoff => ?_, fun hon => ?_⟩
  · rw [hx] at hoff
    simp only [State.takeFetch, hoff, Bool.false_eq_true, if_false]
  have hcases : y.condition = x.condition ∨ y.condition = .tripped ∨ y.condition = .online ∨ y.condition = .notReady := by
    rw [hycond, hnext]
    cases moved <;> cases fault <;> cases ready <;> simp
  have htrack : y.condition ≠ x.condition → y.condition = .tripped → y.tracking = false := by
    intro hne htr
    have hm : moved = true := by
      cases moved with
      | true => rfl
      | false => exact absurd (by rw [hycond, hnext, if_pos rfl]) hne
    have hnextTripped : next = .tripped := hycond.symm.trans htr
    rw [hy, hm, hnextTripped]
    simp
  obtain ⟨u, hu⟩ : ∃ u, u = if capacityChanged x y then (s.setChannel c y).capacityEvent c else s.setChannel c y := ⟨_, rfl⟩
  have hstored : RestKept s (s.setChannel c y) := rfl
  have hrest : RestKept s u := by
    rw [hu]
    split
    · exact hstored.trans (restKept_capacityEvent _ c)
    · exact hstored
  have hchannel : SharesOnly y (u.channel c) := by
    rw [hu]
    split
    · have h := capacityEvent_sharesOnly (s.setChannel c y) c c
      rwa [channel_setChannel_self] at h
    · rw [channel_setChannel_self]
  have hsource : ∀ k, k ≠ srcFault → k ≠ srcDrop → k ≠ srcArrival → u.source k = s.source k := fun k hf hd ha => by
    rw [hu]
    split
    · exact capacityEvent_source _ c hf hd ha
    · rfl
  have hbank : ∀ b, b ≠ 1 → u.bank b = s.bank b := fun b hb => by
    rw [hu]
    split
    · exact capacityEvent_bank _ c hb
    · rfl
  have htake : s.takeFetch c ready fault limit m.toNat = (u.noteChannel c x y).queueReply c := by
    have hon' : (s.channel c).enabled = true := hx ▸ hon
    rw [State.takeFetch, if_pos hon', hfetched, ← hx]
    dsimp only
    rw [← hu]
  obtain ⟨v, hv⟩ : ∃ v, v = u.noteChannel c x y := ⟨_, rfl⟩
  have hmarks : MarksOnly u v := hv ▸ marksOnly_noteChannel u c x y
  have hvline : ∀ k, v.line k = s.line k := fun k => by rw [State.line, hmarks.lines, hrest.lines]; rfl
  have hvseq : v.seq = s.seq := hmarks.seq.trans hrest.seq
  have hfaults := channelFaults_fetch hcases htrack
  have hbanks : ∀ z ∈ channelFaults x y, z.bank = 3 := by
    rw [hfaults]
    intro z hz
    split at hz
    · rw [List.mem_singleton.mp hz]; rfl
    · split at hz
      · rw [List.mem_singleton.mp hz]; rfl
      · cases hz
  have hvsource : ∀ k, k ≠ srcFault → k ≠ srcChannel → v.source k = u.source k := fun k hf hc => by
    rw [hv, noteChannel_eq, captures_source_ne _ _ _ hf, State.notedAt]
    split
    · rw [occurMember_source, if_neg (Ne.symm hc)]
    · rfl
  have hvbank : v.bank 3 = if next ≠ x.condition ∧ next = .tripped then (s.bank 3).take .tripped c.val s.seq.state
      else if x.tracking = false ∧ y.tracking = true then (s.bank 3).take .tracking c.val s.seq.state else s.bank 3 := by
    have hseq : (u.notedAt c x y).seq = s.seq := (marksOnly_notedAt u c x y).seq.trans hrest.seq
    have hb : (u.notedAt c x y).bank 3 = s.bank 3 := by
      rw [← hbank 3 (by decide), State.notedAt]
      split <;> rfl
    rw [hv, noteChannel_eq, hfaults, hycond]
    split
    · rw [List.foldl_cons, List.foldl_nil, capture_bank, hseq, hb]; rfl
    · split
      · rw [List.foldl_cons, List.foldl_nil, capture_bank, hseq, hb]; rfl
      · exact hb
  have hoverruns : v.overruns c ↔ (s.line (lineOf c)).reply ≠ none ∧ (s.line (lineOf c)).flags ||| 0x10 ≠ (s.line (lineOf c)).flags := by
    rw [State.overruns, hvline]
  obtain ⟨w, hw⟩ : ∃ w, w = v.overrunAt c := ⟨_, rfl⟩
  have hwmarks : MarksOnly v w := hw ▸ marksOnly_overrunAt v c
  have ht : s.takeFetch c ready fault limit m.toNat = { w with lines := v.lines.set (lineOf c) ((v.line (lineOf c)).queued c) } := by
    rw [htake, ← hv, queueReply_eq, ← hw]
  have htline : ∀ k, ({ w with lines := v.lines.set (lineOf c) ((v.line (lineOf c)).queued c) } : State).line k
      = if lineOf c = k then (s.line (lineOf c)).queued c else s.line k := fun k => by
    rw [← hvline, ← hvline]
    exact line_setLine v (lineOf c) k _
  refine ⟨u, _, by rw [ht], fun hsame => ?_, fun hne => ?_, ?_, ?_, ?_, fun b hb => ?_, ?_, fun k hk => ?_, ?_, fun k hf hc hl => ?_,
    fun b hb => ?_, ?_⟩
  · rw [hu, if_neg fun h => (capacityChanged_iff x y).mp h hsame]
  · rw [hu, if_pos ((capacityChanged_iff x y).mpr hne)]
  · show ({ w.channel c with share := y.share, frozen := y.frozen } : Channel) = y
    have hwc : w.channel c = u.channel c := by rw [State.channel, hwmarks.channels, hmarks.channels]; rfl
    rw [hwc]
    exact hchannel
  · have hnoted : Raises u v srcChannel fun k => k = c.val ∧ channelNoted x y = true := by
      have hcap : v.source srcChannel = (u.notedAt c x y).source srcChannel := by
        rw [hv, noteChannel_eq, captures_source_ne _ _ _ (by decide)]
      have hfirst : Raises u (u.notedAt c x y) srcChannel fun k => k = c.val ∧ channelNoted x y = true := by
        by_cases h : channelNoted x y = true
        · rw [State.notedAt, if_pos h]
          exact (raises_occurMember u srcChannel c.val).congr fun k => ⟨fun hk => ⟨hk, h⟩, And.left⟩
        · rw [State.notedAt, if_neg h]
          exact (raises_of_eq rfl).congr fun k => ⟨False.elim, fun h' => h h'.2⟩
      exact (hfirst.trans (raises_of_eq hcap)).congr fun k => iff_of_eq (or_false _)
    have hw' : Raises v w srcChannel fun _ => False := raises_of_eq (hw ▸ overrunAt_source_ne v c (by decide) (by decide))
    have hu' : Raises s u srcChannel fun _ => False := raises_of_eq (hsource _ (by decide) (by decide) (by decide))
    refine ((hu'.trans hnoted).trans hw').congr fun k => ?_
    rw [channelNoted_fetch hcases, hycond]
    simp
  · have hv' : FaultRaised 3 u v := by
      have hfirst : FaultRaised 3 u (u.notedAt c x y) := by
        refine faultRaised_of_eq ?_ ?_ <;> unfold State.notedAt <;> split
        · rfl
        · rfl
        · rw [occurMember_source, if_neg (by decide)]
        · rfl
      rw [hv, noteChannel_eq]
      exact hfirst.trans (faultRaised_captures _ hbanks c.val _)
    have hall := hv'.trans (hw ▸ faultRaised_overrunAt v c)
    exact hall.2.congr fun k => by rw [hbank 3 (by decide)]; rfl
  · show w.bank 3 = _
    rw [hb, ← hvbank, hw, overrunAt_bank, hvseq]
    exact if_congr ⟨fun h => hoverruns.mp h.2, fun h => ⟨rfl, hoverruns.mpr h⟩⟩ rfl rfl
  · rw [htline, if_pos rfl, Line.queued, hr]
  · rw [htline, if_neg (Ne.symm hk)]
  · have hu' : Raises s u srcLine fun _ => False := raises_of_eq (hsource _ (by decide) (by decide) (by decide))
    have hv' : Raises u v srcLine fun _ => False := raises_of_eq (hvsource _ (by decide) (by decide))
    have hw' : Raises v w srcLine fun k => k = (lineOf c).val ∧ v.overruns c := hw ▸ raises_overrunAt v c
    exact ((hu'.trans hv').trans hw').congr fun k => by rw [hoverruns]; simp
  · show w.source k = u.source k
    rw [hw, overrunAt_source_ne v c hl hf, hvsource k hf hc]
  · show w.bank b = u.bank b
    rw [hw, overrunAt_bank, if_neg fun h => hb h.1.symm, hv, noteChannel_eq, captures_bank_ne _ hbanks _ _ hb, State.notedAt]
    split <;> rfl
  · have hboth : MarksOnly u w := hmarks.trans hwmarks
    have e := congrArg (fun q : State => { q with lines := s.lines }) hboth
    exact e.trans (by rw [← hrest.lines])

end Sys2Proof.Machine

/-!
What every step keeps (the laws of R1, R2, R11 to R15, R41, R74, R108, R187, R194 to R196): a step is a series of moves, each the work
of one named operation, so that a law is shown of the moves and holds of every step.
-/

namespace Sys2Proof.Machine

/-! ## Attention and banks -/

/-- From `s` to `t` the attention sources and the banks take occurrences and captures alone; nothing is said of the rest. -/
inductive Marked : State → State → Prop where
  | same {s t : State} (hatt : t.attention = s.attention) (hbanks : t.banks = s.banks) : Marked s t
  | member (s : State) (n : SourceNo) (m : Nat) (h : hasMembers n = true) : Marked s (s.occurMember n m)
  | single (s : State) (n : SourceNo) (h : hasMembers n = false) : Marked s (s.occur n)
  | capture (s : State) (x : FaultName) (k : Nat) (st : SeqState) : Marked s (s.captureAs x k st)
  | trans {s t u : State} (h : Marked s t) (k : Marked t u) : Marked s u

/-! ## What a move may make of a record -/

/-- R15, R55 to R58, R67: where a present may go while the state of its record stands. -/
def DrawRecord.mayMove (r : DrawRecord) (p : Nat) : Prop :=
  (r.state = .active ∧ ((r.present ≤ p ∧ p ≤ r.grant) ∨ (r.floor ≤ p ∧ p ≤ r.present))) ∨ (r.state = .releasing ∧ p ≤ r.present)

/-- R7, R8: a record with a target stored. -/
def DrawRecord.retargeted (r : DrawRecord) (target : Nat) : DrawRecord :=
  { r with target := min target r.ceiling, aim := r.aimFor (min target r.ceiling) }

/-- R166: a record amended. -/
def DrawRecord.amended (r : DrawRecord) (cls : DrawClass) (rank : Fin 8) (lock exempt : Bool) (up down : Nat) : DrawRecord :=
  { r with cls := cls, rank := rank, lock := lock, exempt := exempt, upRate := up, downRate := down }

/-- R21: a record that leaves ACTIVE or ENGAGING by RETIRE DRAW, with the timers it then has. -/
def DrawRecord.leaving (r : DrawRecord) (engage release : Timer) : DrawRecord :=
  { r with state := .releasing, target := r.floor, aim := r.floor, engageTimer := engage, releaseTimer := release }

/-- No pass is in flight that has not published. -/
abbrev State.unstarted (s : State) : Prop := ∀ n : Snapshot, s.engine.pass ≠ .running n

/-- A record rewritten by a command or by the lowering of its aim, its feeders and its present left as they were. -/
inductive Rewritten (s : State) (i : Slot) : DrawRecord → Prop where
  | aimed : Rewritten s i (s.record i).lowerAim
  | retargeted (target : Nat) (h : (s.record i).targetReasons target = 0) : Rewritten s i ((s.record i).retargeted target)
  | amended (cls : DrawClass) (rank : Fin 8) (lock exempt : Bool) (up down : Nat) (h : (s.record i).state.noAmend = false) :
      Rewritten s i ((s.record i).amended cls rank lock exempt up down)
  | left (engage release : Timer) (h : (s.record i).state = .active ∨ (s.record i).state = .engaging) (hpass : s.unstarted) :
      Rewritten s i ((s.record i).leaving engage release)

/-- What a move may make of the record at a slot, but for a publication, a reset and the Sequencer's changes of held values. -/
inductive RecordStep (Q : Cmd → Prop) (s : State) (i : Slot) : DrawRecord → Prop where
  | kept : RecordStep Q s i (s.record i)
  | rewritten {r : DrawRecord} (h : Rewritten s i r) : RecordStep Q s i r
  | moved (p : Nat) (h : (s.record i).mayMove p) : RecordStep Q s i { s.record i with present := p }
  | descended (release : Timer) (h : (s.record i).state = .releasing) :
      RecordStep Q s i { s.record i with present := 0, releaseTimer := release }
  | faulted (h : (s.record i).state = .active ∨ (s.record i).state = .engaging) :
      RecordStep Q s i { s.record i with state := .faulted, present := 0, engageTimer := none }
  | engaged (h : (s.record i).state = .engaging) :
      RecordStep Q s i { s.record i with state := .active, present := (s.record i).floor, engageTimer := none }
  | opened (p : OpenParams) (hslot : p.slot = i) (hq : Q (.openDraw p)) (hreasons : s.openReasons p = 0) (hpass : s.unstarted) :
      RecordStep Q s i (openedRecord p s.seq.state)
  | freed : RecordStep Q s i DrawRecord.free

/-! ## The moves -/

/-- From `s` to `t` nothing changes but the lines, Grid Intake, SDO, the queue, and what had begun before the end of a reset. -/
abbrev OuterOnly (s t : State) : Prop :=
  { t with lines := s.lines, grid := s.grid, sdo := s.sdo, underway := s.underway, pending := s.pending } = s

/-- What the Sequencer's own events and commands change: its fields, and with them the held values of all records. -/
structure SeqChange (s t : State) : Prop where
  rest : { t with table := s.table, seq := s.seq } = s
  held : ((∀ i, t.record i = s.record i) ∧ t.seq.state.erInEffect = s.seq.state.erInEffect)
    ∨ ((∀ i, t.record i = (s.record i).hold) ∧ t.seq.state.erInEffect = true)
    ∨ ((∀ i, t.record i = (s.record i).unhold) ∧ t.seq.state.erInEffect = false)
  reentry : ReentryLaw s → ReentryLaw t
  confirmation : ConfirmationLaw s → ConfirmationLaw t

/-- R66: what a capacity event at a channel does, before its pass request. -/
def State.absorbAt (s : State) (c : Chan) : State :=
  match (s.channel c).owner with
  | none => s
  | some i => if (s.record i).live then s.absorbCapacity i else s

/-- A change of a channel's record by a FETCH or by one of its timers (R124, R134, R135), and whether it is a capacity event. -/
inductive ChannelMove (s : State) (c : Chan) : Channel → Bool → Prop where
  | fetched (ready fault limit : Bool) (measured : Nat) :
      ChannelMove s c (s.fetched c ready fault limit measured)
        (capacityChanged (s.channel c) (s.fetched c ready fault limit measured))
  | frozen (h : (s.channel c).condition = .online) : ChannelMove s c ((s.channel c).freeze s.timing) true
  | lost (h : (s.channel c).condition = .stale ∨ (s.channel c).condition = .notReady) :
      ChannelMove s c (s.channel c).lose (s.channel c).lossIsEvent

/-- A channel's record changed, with the capacity event where it is one. -/
def State.reportedAt (s : State) (c : Chan) (y : Channel) (event : Bool) : State :=
  if event then (s.setChannel c y).absorbAt c else s.setChannel c y

/-- R181: the state after CONFIGURE TIMING. -/
def State.timed (s : State) (x : Timing) : State :=
  ((s.setTiming x).mapChannels (Channel.capMismatch x.trackCount)).newLimit x.reentryLimit

/-- R17: the state after an OPEN DRAW that passed its checks, before its pass request. -/
def State.openedAt (s : State) (p : OpenParams) : State :=
  (s.setRecord p.slot (openedRecord p s.seq.state)).updateFeeders p.feeders (Channel.bound p.slot)

/-- One move: the work of one operation of the model. `Q` says which commands may be taken; where it allows none, the port changes by
being overtaken alone, and a pass in flight stays in flight. -/
inductive Move (Q : Cmd → Prop) (s : State) : State → Prop where
  | outer {t : State} (h : OuterOnly s t) : Move Q s t
  | port (p : Port) (h : ∃ c, Q c) : Move Q s (s.setPort p)
  | overtaken : Move Q s (s.setPort s.port.overtaken)
  | ramp (x : Ramp) (h : x.deferred = s.ramp.deferred ∨ s.engine.pass.inFlight = true) : Move Q s (s.setRamp x)
  | engine (e : Engine) (hcap : e.publishedCap = s.engine.publishedCap) (hbreach : e.breach = s.engine.breach)
      (hpass : ∀ n, e.pass = .running n → s.engine.pass = .running n ∨ n = s.snapshot)
      (hflies : (s.engine.pass.inFlight = true → e.pass.inFlight = true) ∨ ∃ c, Q c)
      (hrerun : (s.engine.rerun = true → s.engine.pass.inFlight = true) → e.rerun = true → e.pass.inFlight = true) :
      Move Q s (s.setEngine e)
  | marks {t : State} (h : Marked s t) (hrest : MarksOnly s t) : Move Q s t
  | cleared (b : BankNo) (hq : Q (.clearFaultBank b)) : Move Q s (s.setBank b FaultBank.empty)
  | served {t : State} (hrest : { t with attention := s.attention } = s)
      (h : ∀ n, (t.source n).ip = (s.source n).ip ∧ (t.source n).members = (s.source n).members) : Move Q s t
  | sensed (n : SourceNo) : Move Q s (s.setSource n ((s.source n).sensed (hasMembers n)))
  | rewritten (i : Slot) {r : DrawRecord} (h : Rewritten s i r) : Move Q s (s.setRecord i r)
  | moved (i : Slot) (p : Nat) (h : (s.record i).mayMove p) (hcarried : p ≤ s.carrying i ∨ p ≤ (s.record i).present)
      (hfrozen : s.frozenSum i ≤ p ∨ (s.record i).present ≤ p) : Move Q s (s.movePresent i p)
  | descended (i : Slot) (h : (s.record i).state = .releasing) : Move Q s (s.endDescent i)
  | faulted (i : Slot) (x : FaultName) (h : (s.record i).state = .engaging) : Move Q s (s.faultRecord i x)
  | engaged (i : Slot) (h : (s.record i).state = .engaging) (hfits : (s.record i).floor ≤ s.onlineSum i) : Move Q s (s.engagedAt i)
  | opened (p : OpenParams) (hq : Q (.openDraw p)) (hreasons : s.openReasons p = 0) (hpass : s.unstarted) : Move Q s (s.openedAt p)
  | freed (i : Slot) : Move Q s (s.enterFree i)
  | settled (c : Chan) (enabled : Bool) (capacity : Nat) (h : (s.channel c).owner = none) :
      Move Q s (s.setChannel c { s.channel c with enabled := enabled, capacity := capacity })
  | rearmed (c : Chan) (h : (s.channel c).condition = .tripped) : Move Q s (s.setChannel c { s.channel c with condition := .waiting })
  | reported (c : Chan) {y : Channel} {event : Bool} (h : ChannelMove s c y event) : Move Q s (s.reportedAt c y event)
  | timed (x : Timing) (hq : Q (.configureTiming x)) : Move Q s (s.timed x)
  | sequencer {t : State} (h : SeqChange s t) : Move Q s t
  | published (n : Snapshot) (h : s.engine.pass = .running n) : Move Q s (s.publish n)
  | restarted (banks : Vector FaultBank 4) (r : ResetState) (step : Timer) (begun : Underway)
      (hbanks : banks = s.banks ∨ (banks = emptyBanks ∧ ∀ b, Q (.clearFaultBank b))) : Move Q s (s.restarted banks r step begun)

/-- A series of moves. -/
abbrev Moves (Q : Cmd → Prop) : State → State → Prop := Relation.ReflTransGen (Move Q)

theorem Move.moves {Q : Cmd → Prop} {s t : State} (h : Move Q s t) : Moves Q s t := .single h

/-- What every move keeps, every series of moves keeps. -/
theorem Moves.keeps {Q : Cmd → Prop} {P : State → Prop} (hmove : ∀ s t, P s → Move Q s t → P t) {s t : State} (h : Moves Q s t) :
    P s → P t := by
  induction h with
  | refl => exact id
  | tail _ hlast ih => exact fun hs => hmove _ _ (ih hs) hlast

theorem moves_foldl {Q : Cmd → Prop} {α : Type} {F : State → α → State} (hF : ∀ s a, Moves Q s (F s a)) (as : List α) (s : State) :
    Moves Q s (as.foldl F s) := by
  induction as generalizing s with
  | nil => exact .refl
  | cons a as ih => exact (hF s a).trans (ih (F s a))

end Sys2Proof.Machine

/-!
The commands, the port and the publication window as series of moves.
-/

namespace Sys2Proof.Machine

section
variable {Q : Cmd → Prop}

/-! ## Requests, occurrences and captures -/

theorem move_startPass (s : State) : Move Q s s.startPass :=
  .engine _ rfl rfl (fun _ h => .inr (Pass.running.inj h).symm) (.inl fun _ => rfl) fun _ _ => rfl

theorem flies_of_ne_idle {p : Pass} (h : p ≠ .idle) : p.inFlight = true := by rw [inFlight_eq]; exact decide_eq_true h

theorem move_requestPass (s : State) : Move Q s s.requestPass := by
  by_cases h : s.engine.pass = .idle
  · rw [requestPass_idle h]; exact move_startPass s
  · rw [requestPass_flying h]
    exact .engine _ rfl rfl (fun _ hn => .inl hn) (.inl id) fun _ _ => flies_of_ne_idle h

theorem moves_requestIf (s : State) (b : Bool) : Moves Q s (s.requestIf b) := by
  cases b
  · exact .refl
  · exact (move_requestPass s).moves

theorem moves_apply (s : State) (r : Request) : Moves Q s (s.apply r) := by
  cases r
  · exact .refl
  · exact (move_requestPass s).moves
  · exact (move_startPass s).moves

/-- The window that has its command taken. -/
theorem move_setWindow (s : State) (due : Bool) : Move Q s (s.setEngine { s.engine with pass := .window due }) :=
  .engine _ rfl rfl (fun _ hn => Pass.noConfusion hn) (.inl fun _ => rfl) fun _ _ => rfl

/-- The Engine idle, where no rerun flag is set. -/
theorem move_setIdle {s : State} (hsome : ∃ c, Q c) (hr : s.engine.rerun = false) : Move Q s (s.setEngine { s.engine with pass := .idle }) :=
  .engine _ rfl rfl (fun _ hn => Pass.noConfusion hn) (.inr hsome) fun _ h => absurd (hr.symm.trans h) Bool.false_ne_true

theorem move_occurMember (s : State) (n : SourceNo) (m : Nat) (h : hasMembers n = true) : Move Q s (s.occurMember n m) :=
  .marks (.member s n m h) rfl

theorem move_occur (s : State) (n : SourceNo) (h : hasMembers n = false) : Move Q s (s.occur n) := .marks (.single s n h) rfl

theorem move_captureAs (s : State) (x : FaultName) (k : Nat) (st : SeqState) : Move Q s (s.captureAs x k st) :=
  .marks (.capture s x k st) (marksOnly_captureAs s x k st)

/-! ## The commands as they are taken -/

theorem moves_performOpen {p : OpenParams} {s : State} (hq : Q (.openDraw p)) (hpass : s.unstarted) : Moves Q s (performOpen p s).1 := by
  by_cases h : s.openReasons p = 0
  · rw [performOpen_done h]
    exact (Move.opened p hq h hpass).moves.tail (move_requestPass _)
  · rw [performOpen]
    exact (congrArg (fun x : State × List Byte => Moves Q s x.1) (if_neg h)).mpr .refl

theorem moves_performSetTarget (i : Slot) (target : Nat) (s : State) : Moves Q s (performSetTarget i target s).1 := by
  unfold performSetTarget
  dsimp only
  split
  next h =>
    have hstore : Moves Q s (s.setRecord i ((s.record i).retargeted target)) := (Move.rewritten i (.retargeted target h)).moves
    refine Relation.ReflTransGen.tail ?_ (move_requestPass _)
    split
    · exact hstore.tail (move_occurMember _ _ _ rfl)
    · exact hstore
  next => exact .refl

theorem moves_performAmend (i : Slot) (cls : DrawClass) (rank : Fin 8) (lock exempt : Bool) (up down : Nat) (s : State) :
    Moves Q s (performAmend i cls rank lock exempt up down s).1 := by
  unfold performAmend
  dsimp only
  split
  · exact .refl
  next h => exact (Move.rewritten i (.amended cls rank lock exempt up down (by simpa using h))).moves.tail (move_requestPass _)

theorem moves_performRetire (i : Slot) {s : State} (hpass : s.unstarted) : Moves Q s (performRetire i s).1 := by
  have hfree : Moves Q s (s.enterFree i).requestPass := (Move.freed i).moves.tail (move_requestPass _)
  cases h : (s.record i).state <;> simp only [performRetire, h]
  case free => exact .refl
  case releasing => exact .refl
  case pending => exact hfree
  case shed => exact hfree
  case faulted => exact hfree
  case active => exact (Move.rewritten i (.left _ _ (.inl h) hpass)).moves.tail (move_requestPass _)
  case engaging => exact (Move.rewritten i (.left _ _ (.inr h) hpass)).moves.tail (move_requestPass _)

theorem moves_performSetChannel (c : Chan) (enabled : Bool) (capacity : Nat) (s : State) :
    Moves Q s (performSetChannel c enabled capacity s).1 := by
  unfold performSetChannel
  dsimp only
  split
  · exact .refl
  next h =>
    have hset : Moves Q s (s.setChannel c { s.channel c with enabled := enabled, capacity := capacity }) :=
      (Move.settled c enabled capacity (by simpa using h)).moves
    refine Relation.ReflTransGen.tail ?_ (move_requestPass _)
    split
    · exact hset
    · refine hset.tail (.outer ?_)
      unfold State.dropReply
      dsimp only
      split <;> rfl

theorem moves_performRearm (c : Chan) (s : State) : Moves Q s (performRearm c s).1 := by
  unfold performRearm
  dsimp only
  split
  next h => exact (Move.rearmed c h).moves.tail (move_requestPass _)
  next => exact .refl

theorem moves_performReadLine (n : Fin 9) (s : State) : Moves Q s (performReadLine n s).1 := by
  unfold performReadLine
  split <;> exact (Move.outer rfl).moves

theorem moves_performSense (s : State) : Moves Q s (performSense s).1 := by
  unfold performSense
  split
  · exact .refl
  next n _ => exact (Move.sensed n).moves

theorem moves_performEndService (n : SourceNo) (s : State) : Moves Q s (performEndService n s).1 := by
  refine (Move.served rfl fun k => ?_).moves
  have hk : (performEndService n s).1.source k = if n = k then { s.source n with ius := false } else s.source k := source_setSource ..
  rw [hk]
  split
  next h => subst h; exact ⟨rfl, rfl⟩
  next => exact ⟨rfl, rfl⟩

theorem moves_performSetMask (mask : Byte) (s : State) : Moves Q s (performSetMask mask s).1 :=
  (Move.served (setMask_keeps s mask) fun n => by rw [setMask_source]; exact ⟨rfl, rfl⟩).moves

/-! ## The Sequencer's commands (R94, R109) -/

theorem confirmationLaw_confirming {s : State} (h : s.seq.state = .confirming) : ConfirmationLaw s ↔ s.runBelow = true := by
  rw [ConfirmationLaw, if_pos h]

theorem confirmationLaw_other {s : State} (h : s.seq.state ≠ .confirming) :
    ConfirmationLaw s ↔ s.seq.candidate = none ∧ s.seq.count = 0 := by
  rw [ConfirmationLaw, if_neg h]

theorem runBelow_some {s : State} {c : ProfileNo} (h : s.seq.candidate = some c) :
    s.runBelow = (decide (1 ≤ s.seq.count) && decide (s.seq.count < (s.profile c).confirm)) := by
  simp only [State.runBelow, h]

/-- R94: a profile that is not the candidate of a run may be loaded. -/
theorem seqChange_loaded {s : State} {k : ProfileNo} (p : Profile) (h : s.profileBusy k = false) :
    SeqChange s (s.setSeq { s.seq with profiles := s.seq.profiles.set k p }) := by
  refine ⟨rfl, .inl ⟨fun _ => rfl, rfl⟩, id, fun hconf => ?_⟩
  by_cases hst : s.seq.state = .confirming
  · have hrun : s.runBelow = true := (confirmationLaw_confirming hst).mp hconf
    refine (confirmationLaw_confirming ?_).mpr ?_
    · exact hst
    cases hc : s.seq.candidate with
    | none => rw [State.runBelow, hc] at hrun; cases hrun
    | some c =>
      have hne : c ≠ k := fun heq => by simp [State.profileBusy, hst, hc, heq] at h
      have hprofile : ((s.setSeq { s.seq with profiles := s.seq.profiles.set k p }).profile c) = s.profile c := by
        rw [profile_setProfile, if_neg (Ne.symm hne)]
      rw [runBelow_some hc, ← hprofile] at hrun
      exact (runBelow_some (s := s.setSeq { s.seq with profiles := s.seq.profiles.set k p }) hc).trans hrun
  · have hnone := (confirmationLaw_other hst).mp hconf
    refine (confirmationLaw_other ?_).mpr hnone
    exact hst

/-- R109: RESUME takes LATCHED to RESTORING. -/
theorem seqChange_resumed {s : State} (h : s.seq.state = .latched) :
    SeqChange s ((s.setSeq { s.seq with resumeRequired := false, reentries := 0 }).enterRestoring) := by
  refine ⟨rfl, .inl ⟨fun _ => rfl, by rw [h]; rfl⟩, fun ⟨hlo, hhi, _, _⟩ => ⟨hlo, hhi, Nat.zero_le _, fun heq => ?_⟩, fun hconf => ?_⟩
  · exact absurd heq (by show (0 : Nat) ≠ s.timing.reentryLimit; omega)
  · have hnone := (confirmationLaw_other (by rw [h]; exact SeqState.noConfusion)).mp hconf
    exact (confirmationLaw_other SeqState.noConfusion).mpr hnone

theorem moves_performLoadProfile (k : ProfileNo) (p : Profile) (s : State) : Moves Q s (performLoadProfile k p s).1 := by
  unfold performLoadProfile
  split
  · exact .refl
  next h => exact (Move.sequencer (seqChange_loaded _ (by simpa using h))).moves

theorem moves_performResume (s : State) : Moves Q s (performResume s).1 := by
  unfold performResume
  split
  next h => exact (Move.sequencer (seqChange_resumed h)).moves.tail (move_requestPass _)
  next => exact .refl

/-- A command taken is a series of moves. -/
theorem moves_perform {c : Cmd} {s : State} (hq : Q c) (hpass : c.waits = true → s.unstarted) : Moves Q s (perform c s).1 := by
  cases c
  case openDraw p => exact moves_performOpen hq (hpass rfl)
  case setTarget i w => exact moves_performSetTarget i w s
  case amendDraw => exact moves_performAmend ..
  case retireDraw i => exact moves_performRetire i (hpass rfl)
  case readDraw => exact .refl
  case scanDraws => exact .refl
  case setCap w =>
    exact (Move.engine { s.engine with e0 := w } rfl rfl (fun _ h => .inl h) (.inl id) fun h => h).moves.tail (move_requestPass _)
  case readPlant => exact .refl
  case setChannel c enabled w => exact moves_performSetChannel c enabled w s
  case rearmChannel c => exact moves_performRearm c s
  case readChannel => exact .refl
  case readLine n => exact moves_performReadLine n s
  case loadProfile k p => exact moves_performLoadProfile k p s
  case readProfile => exact .refl
  case configureGrid => exact (Move.outer rfl).moves
  case configureTiming x => exact (Move.timed x hq).moves
  case readGrid => exact .refl
  case resume => exact moves_performResume s
  case senseAttention => exact moves_performSense s
  case endService n => exact moves_performEndService n s
  case setAttentionMask mask => exact moves_performSetMask mask s
  case readFaultBank => exact .refl
  case clearFaultBank b => exact (Move.cleared b hq).moves

theorem moves_takeCmd {c : Cmd} {s : State} (hq : Q c) (hpass : c.waits = true → s.unstarted) : Moves Q s (s.takeCmd c) :=
  (moves_perform hq hpass).tail (.port _ ⟨c, hq⟩)

end

end Sys2Proof.Machine

/-!
The transactions of the port and the publication window as series of moves.
-/

namespace Sys2Proof.Machine

section
variable {Q : Cmd → Prop}

/-! ## A command begun (R151, R152) -/

theorem unstarted_of_notFlying {s : State} (h : s.engine.pass.inFlight ≠ true) : s.unstarted := fun n hn => h (by rw [hn]; rfl)

theorem moves_takeOrWait {c : Cmd} {s : State} (hq : Q c) : Moves Q s (s.takeOrWait c) := by
  unfold State.takeOrWait
  split
  · have hport : Moves Q s (s.setPort { s.port with phase := .execution, waiting := some c }) := (Move.port _ ⟨c, hq⟩).moves
    dsimp only
    split
    · exact hport.tail (move_setWindow _ false)
    · exact hport
  next h =>
    refine moves_takeCmd hq fun hw => unstarted_of_notFlying fun hf => h ?_
    rw [hw, hf]; rfl

theorem moves_takeBeforeStart {c : Cmd} {s : State} (hq : Q c) (hr : s.engine.rerun = false) : Moves Q s (s.takeBeforeStart c) :=
  ((move_setIdle ⟨c, hq⟩ hr).moves.trans
    (moves_takeCmd hq fun _ _ => Pass.noConfusion)).tail (move_requestPass _)

theorem moves_startCmd {c : Cmd} {s : State} (hq : Q c) (first : Bool) : Moves Q s (s.startCmd c first) := by
  unfold State.startCmd
  split
  next h =>
    rw [Bool.and_eq_true, passStarting_iff] at h
    exact moves_takeBeforeStart hq h.2.2
  next => exact moves_takeOrWait hq

/-! ## The PUT transactions (R148 to R151) -/

/-- A byte put that finds a code finds one of those `A` says. -/
abbrev CodeIn (A : CmdCode → Prop) (s : State) : Prop := s.port.phase = .command → ∀ code, s.port.code = some code → A code

/-- The port is in the middle of a command of those `A` says, or takes no byte. -/
abbrev Engaged (A : CmdCode → Prop) (s : State) : Prop := s.port.phase = .command → ∃ code, s.port.code = some code ∧ A code

theorem Engaged.codeIn {A : CmdCode → Prop} {s : State} (h : Engaged A s) : CodeIn A s := fun hp code hc => by
  obtain ⟨code', hc', ha⟩ := h hp
  rw [hc] at hc'
  cases hc'
  exact ha

theorem takeOrWait_phase (s : State) (c : Cmd) : (s.takeOrWait c).port.phase ≠ .command := by
  unfold State.takeOrWait
  split
  · dsimp only; split <;> exact Phase.noConfusion
  · exact Phase.noConfusion

theorem startCmd_phase (s : State) (c : Cmd) (first : Bool) : (s.startCmd c first).port.phase ≠ .command := by
  unfold State.startCmd
  split
  · rw [State.takeBeforeStart, requestPass_port]; exact Phase.noConfusion
  · exact takeOrWait_phase s c

theorem beginExecution_phase (s : State) (code : CmdCode) (ps : List Byte) (first : Bool) :
    (s.beginExecution code ps first).port.phase ≠ .command := by
  cases h : parseCmd code ps with
  | none => rw [beginExecution_none h]; exact Phase.noConfusion
  | some c => rw [beginExecution_some h]; exact startCmd_phase s c first

section
variable {A : CmdCode → Prop} (hsome : ∃ c, Q c) (hparse : ∀ code ps c, A code → parseCmd code ps = some c → Q c)
include hsome hparse

theorem moves_beginExecution {s : State} {code : CmdCode} (ha : A code) (ps : List Byte) (first : Bool) :
    Moves Q s (s.beginExecution code ps first) := by
  cases h : parseCmd code ps with
  | none => rw [beginExecution_none h]; exact (Move.port _ hsome).moves
  | some c => rw [beginExecution_some h]; exact moves_startCmd (hparse code ps c ha h) first

theorem moves_putParam {s : State} {code : CmdCode} (ha : A code) (b : Byte) (first : Bool) : Moves Q s (s.putParam code b first) := by
  have hport : ∀ p, Moves Q s (s.setPort p) := fun p => (Move.port p hsome).moves
  unfold State.putParam
  dsimp only
  split
  · split
    · exact hport _
    · exact hport _
  · split
    · exact (hport _).trans (moves_beginExecution hsome hparse ha _ first)
    · exact hport _

variable (hnone : ∀ code, code.paramCount = 0 → A code)
include hnone

theorem moves_putCode (s : State) (b : Byte) : Moves Q s (s.putCode b) := by
  have hport : ∀ p, Moves Q s (s.setPort p) := fun p => (Move.port p hsome).moves
  unfold State.putCode
  dsimp only
  split
  · exact hport _
  next code _ =>
    split
    next h0 => exact (hport _).trans (moves_beginExecution hsome hparse (hnone code h0) _ false)
    next => exact hport _

theorem moves_putByte {s : State} (hcode : CodeIn A s) (b : Byte) (first : Bool) : Moves Q s (s.putByte b first) := by
  by_cases hp : s.port.phase = .command
  · cases hc : s.port.code with
    | none => rw [putByte_asCode hp hc]; exact moves_putCode hsome hparse hnone s b
    | some code => rw [putByte_asParam hp hc]; exact moves_putParam hsome hparse (hcode hp code hc) b first
  · rw [putByte_slip hp]; exact (Move.port _ hsome).moves

end

theorem engaged_putParam {A : CmdCode → Prop} {s : State} {code : CmdCode} (ha : A code) (hc : s.port.code = some code) (b : Byte)
    (first : Bool) : Engaged A (s.putParam code b first) := by
  unfold State.putParam
  dsimp only
  split
  · split
    · exact fun _ => ⟨code, hc, ha⟩
    · exact fun h => Phase.noConfusion h
  · split
    · exact fun h => absurd h (beginExecution_phase _ _ _ _)
    · exact fun _ => ⟨code, hc, ha⟩

theorem engaged_putCode {A : CmdCode → Prop} {s : State} {b : Byte} (hb : ∀ code, codeOf b = some code → A code) :
    Engaged A (s.putCode b) := by
  unfold State.putCode
  dsimp only
  split
  · exact fun h => Phase.noConfusion h
  next code hcode =>
    split
    · exact fun h => absurd h (beginExecution_phase _ _ _ _)
    · exact fun _ => ⟨code, rfl, hb code hcode⟩

/-- Once a byte has been put, the port is in the middle of a command or takes no more. -/
theorem engaged_putByte {A : CmdCode → Prop} {s : State} {b : Byte} (hcode : CodeIn A s) (hb : ∀ code, codeOf b = some code → A code)
    (first : Bool) : Engaged A (s.putByte b first) := by
  by_cases hp : s.port.phase = .command
  · cases hc : s.port.code with
    | none => rw [putByte_asCode hp hc]; exact engaged_putCode hb
    | some code => rw [putByte_asParam hp hc]; exact engaged_putParam (hcode hp code hc) hc b first
  · rw [putByte_slip hp]
    exact fun h => absurd h hp

/-- A byte put where the port is in the middle of a command leaves it so. -/
theorem engaged_putByte_again {A : CmdCode → Prop} {s : State} (h : Engaged A s) (b : Byte) (first : Bool) : Engaged A (s.putByte b first) := by
  by_cases hp : s.port.phase = .command
  · obtain ⟨code, hc, ha⟩ := h hp
    rw [putByte_asParam hp hc]
    exact engaged_putParam ha hc b first
  · rw [putByte_slip hp]
    exact fun h => absurd h hp

theorem moves_transact {s : State} {f : State → State} (out : Byte) (h : s.underway.port = false → Moves Q s (f s)) :
    Moves Q s (s.transact out f) := by
  unfold State.transact
  split
  · split
    · exact (Move.outer rfl).moves
    next hu => exact (h (by simpa using hu)).tail (.outer rfl)
  · exact .refl

/-- A series of PUTs from the middle of a command. -/
theorem moves_putAll_engaged {A : CmdCode → Prop} (hsome : ∃ c, Q c) (hparse : ∀ code ps c, A code → parseCmd code ps = some c → Q c)
    (hnone : ∀ code, code.paramCount = 0 → A code) (bs : List Byte) {s : State} (h : Engaged A s) : Moves Q s (s.putAll bs) := by
  induction bs generalizing s with
  | nil => exact .refl
  | cons b bs ih =>
    refine (moves_transact 0x00 fun _ => moves_putByte hsome hparse hnone h.codeIn b false).trans (ih ?_)
    unfold State.transact
    split
    · split
      · exact h
      · exact engaged_putByte_again h b false
    · exact h

/-- The byte of a row's PUTs that the port judges first, where it judges any. -/
def State.firstJudged (s : State) (bs : List Byte) : Option Byte := if s.underway.port then bs.tail.head? else bs.head?

/-- A series of PUTs, where the byte judged first is no code but of those `A` says. -/
theorem moves_putAll {A : CmdCode → Prop} (hsome : ∃ c, Q c) (hparse : ∀ code ps c, A code → parseCmd code ps = some c → Q c)
    (hnone : ∀ code, code.paramCount = 0 → A code) (bs : List Byte) {s : State} (hcode : CodeIn A s)
    (hfirst : ∀ b ∈ s.firstJudged bs, ∀ code, codeOf b = some code → A code) : Moves Q s (s.putAll bs) := by
  have hclear : ∀ (bs : List Byte) (u : State), u.underway.port = false → CodeIn A u →
      (∀ b ∈ bs.head?, ∀ code, codeOf b = some code → A code) → Moves Q u (u.putAll bs) := fun bs u hu hin hb => by
    cases bs with
    | nil => exact .refl
    | cons b bs =>
      by_cases hup : u.resetState = .running
      · have hput : u.transact 0x00 (fun t => t.putByte b false) = (u.putByte b false).setSdo 0x00 := by
          rw [State.transact, if_pos hup, if_neg (by rw [hu]; exact Bool.false_ne_true)]
        have htail : u.putAll (b :: bs) = (u.transact 0x00 fun t => t.putByte b false).putAll bs := rfl
        have hset : Move Q (u.putByte b false) ((u.putByte b false).setSdo 0x00) := .outer rfl
        have hengaged : Engaged A ((u.putByte b false).setSdo 0x00) := engaged_putByte hin (hb b rfl) false
        rw [htail, hput]
        exact ((moves_putByte hsome hparse hnone hin b false).tail hset).trans (moves_putAll_engaged hsome hparse hnone bs hengaged)
      · rw [putAll_reset hup]
  cases hu : s.underway.port with
  | false =>
    rw [State.firstJudged, hu] at hfirst
    exact hclear bs s hu hcode hfirst
  | true =>
    rw [State.firstJudged, hu] at hfirst
    cases bs with
    | nil => exact .refl
    | cons b bs =>
      by_cases hup : s.resetState = .running
      · have hskip : s.transact 0x00 (fun t => t.putByte b false) = s.setUnderway { s.underway with port := false } := by
          rw [State.transact, if_pos hup, if_pos hu]
        have htail : s.putAll (b :: bs) = (s.transact 0x00 fun t => t.putByte b false).putAll bs := rfl
        rw [htail, hskip]
        exact (Move.outer rfl).moves.trans (hclear bs _ rfl hcode hfirst)
      · rw [putAll_reset hup]

/-! ## The other transactions (R145, R146, R154, R156) -/

theorem move_takeByte (hsome : ∃ c, Q c) (s : State) (early : Bool) : Move Q s (s.takeByte early) := by
  unfold State.takeByte
  split
  · split <;> exact .port _ hsome
  · exact .port _ hsome

theorem moves_actOn (hsome : ∃ c, Q c) {s : State} {kind : Selector} {data : Byte} {early : Bool} (hput : kind = .put → Moves Q s (s.putByte data early)) :
    Moves Q s (s.actOn kind data early) := by
  cases kind
  case status => exact .refl
  case put => exact hput rfl
  case take => exact (move_takeByte hsome s early).moves
  case abort => exact (Move.port _ hsome).moves
  case unknown => exact (Move.port _ hsome).moves

theorem moves_transaction (hsome : ∃ c, Q c) {s : State} {selector data : Byte} {early : Bool}
    (hput : selectorOf selector = .put → Moves Q s (s.putByte data early)) : Moves Q s (s.transaction selector data early) :=
  moves_transact _ fun _ => moves_actOn hsome hput

/-! ## The step timer (R53 to R57) -/

theorem moves_stepRecord (s : State) (i : Slot) : Moves Q s (s.stepRecord i) := by
  have haim : Moves Q s (s.aimLowered i) := (Move.rewritten i .aimed).moves
  have hrec := aimLowered_record s i
  rcases stepRecord_cases s i with ⟨⟨hst, hlt⟩, e⟩ | ⟨-, ⟨hst, -⟩, hb, e⟩ | ⟨-, ⟨hst, -⟩, -, e⟩ | ⟨-, -, e⟩ <;> rw [e]
  · have hcarrying : s.ceff i ≤ (s.aimLowered i).carrying i := by
      rw [← aimLowered_ceff]; exact min_le_right _ _
    refine haim.tail (.moved i _ ?_ (.inl ?_) (.inr ?_))
    · rw [hrec]
      exact .inl ⟨hst, .inl (by show _ ≤ _ ∧ _ ≤ (s.record i).grant; show (s.record i).present ≤ _ ∧ _; omega)⟩
    · omega
    · rw [hrec]
      show (s.record i).present ≤ _
      omega
  · refine (Move.moved i _ (.inr ⟨hst, ?_⟩) (.inr ?_) (.inl ?_)).moves
    · omega
    · omega
    · have hfrozen : s.frozenSum i ≤ s.releaseBound i := le_max_right _ _
      omega
  · exact (Move.descended i hst).moves
  · exact haim

theorem moves_takeStep (s : State) : Moves Q s s.takeStep := by
  rw [takeStep_eq]
  exact (moves_foldl moves_stepRecord slots s).trans (moves_requestIf _ _)

/-! ## The publication window (R47) -/

theorem moves_publishIfRunning (s : State) : Moves Q s s.publishIfRunning := by
  unfold State.publishIfRunning
  split
  next n h => exact (Move.published n h).moves
  next => exact .refl

theorem moves_windowExpiry (s : State) : Moves Q s s.windowExpiry := by
  unfold State.windowExpiry
  split
  next d hp _ =>
    have hramp : Move Q s (s.setRamp { s.ramp with deferred := d }) := .ramp _ (.inr (by rw [hp]; rfl))
    exact .head hramp (moves_takeStep _)
  · exact .refl

theorem moves_windowExpiries (n : Nat) (s : State) : Moves Q s (State.windowExpiries n s) := by
  induction n generalizing s with
  | zero => exact .refl
  | succ n ih => exact (moves_windowExpiry s).trans (ih _)

theorem moves_windowCommand {s : State} (hwait : ∀ c ∈ s.port.waiting, Q c) : Moves Q s s.windowCommand := by
  unfold State.windowCommand
  split
  next c _ hw =>
    exact .head (move_setWindow s false) (moves_takeCmd (hwait c hw) fun _ _ => Pass.noConfusion)
  next => exact .refl

theorem moves_closeWindow (hsome : ∃ c, Q c) {s : State} (hwait : ∀ c ∈ s.port.waiting, Q c) : Moves Q s s.closeWindow := by
  unfold State.closeWindow
  split
  next =>
    split
    next => exact (move_startPass s).moves
    next hr =>
      have hidle : Move Q s (s.setEngine { s.engine with pass := .idle }) := move_setIdle hsome (by simpa using hr)
      dsimp only
      split
      next c hw => exact .head hidle (moves_takeCmd (hwait c hw) fun _ _ => Pass.noConfusion)
      next => exact hidle.moves
  next => exact .refl

theorem windowExpiries_port (n : Nat) (s : State) : (State.windowExpiries n s).port = s.port := by
  induction n generalizing s with
  | zero => rfl
  | succ n ih =>
    rw [State.windowExpiries, ih]
    unfold State.windowExpiry
    split
    next d _ _ => exact (restKept_takeStep (s.setRamp { s.ramp with deferred := d })).port
    next => rfl

theorem windowCommand_waiting {s : State} (hwait : ∀ c ∈ s.port.waiting, Q c) : ∀ c ∈ s.windowCommand.port.waiting, Q c := by
  unfold State.windowCommand
  split
  · exact fun c hc => by cases hc
  · exact hwait

theorem moves_runWindow (hsome : ∃ c, Q c) {s : State} (hwait : ∀ c ∈ s.port.waiting, Q c) (k : Nat) : Moves Q s (s.runWindow k) := by
  unfold State.runWindow
  have h1 : ∀ c ∈ (State.windowExpiries (min k s.ramp.deferred) s).port.waiting, Q c := by rw [windowExpiries_port]; exact hwait
  have h2 := windowCommand_waiting h1
  have h3 : ∀ c ∈ (State.windowExpiries s.ramp.deferred (State.windowExpiries (min k s.ramp.deferred) s).windowCommand).port.waiting, Q c := by
    rw [windowExpiries_port]; exact h2
  exact (((moves_windowExpiries _ s).trans (moves_windowCommand h1)).trans (moves_windowExpiries _ _)).trans (moves_closeWindow hsome h3)

theorem moves_publicationRow (hsome : ∃ c, Q c) {s : State} (hwait : ∀ c ∈ s.port.waiting, Q c) (part : WindowPart) : Moves Q s (s.publicationRow part) := by
  have hpublished : ∀ c ∈ s.publishIfRunning.port.waiting, Q c := by
    unfold State.publishIfRunning
    split
    next n _ => rw [(restKept_publish s n).port]; exact hwait
    next => exact hwait
  unfold State.publicationRow
  split
  · cases part
    case whole k => exact (moves_publishIfRunning s).trans (moves_runWindow hsome hpublished k)
    case opened => exact moves_publishIfRunning s
    case takeCommand => exact moves_windowCommand hwait
    case takeExpiry => exact moves_windowExpiry s
  · exact .refl

/-! ## Engagement and release (R19, R22) -/

theorem move_completeEngagement {s : State} {i : Slot} (h : (s.record i).state = .engaging) : Move Q s (s.completeEngagement i) := by
  rw [completeEngagement_eq]
  split
  next hfits => exact .engaged i h hfits
  next => exact .faulted i _ h

end

end Sys2Proof.Machine

/-!
The frames of the grid line and the Sequencer's timers as series of moves.
-/

namespace Sys2Proof.Machine

section
variable {Q : Cmd → Prop}

/-! ## Changes of the Sequencer (R96, R98, R108) -/

theorem confirmationLaw_quiet {s : State} (h : s.seq.state ≠ .confirming) (hc : s.seq.candidate = none) (hn : s.seq.count = 0) :
    ConfirmationLaw s := (confirmationLaw_other h).mpr ⟨hc, hn⟩

/-- A change of the Sequencer's fields alone that leaves the re-entry count and the ride cap's being in effect as they were. -/
theorem seqChange_setSeq {s : State} {x : Sequencer} (her : x.state.erInEffect = s.seq.state.erInEffect)
    (hcount : x.reentries = s.seq.reentries) (hreq : x.resumeRequired = s.seq.resumeRequired)
    (hconf : ConfirmationLaw s → ConfirmationLaw (s.setSeq x)) : SeqChange s (s.setSeq x) := by
  refine ⟨rfl, .inl ⟨fun _ => rfl, her⟩, fun ⟨hlo, hhi, hle, heq⟩ => ⟨hlo, hhi, ?_, fun h => ?_⟩, hconf⟩
  · exact hcount.trans_le hle
  · exact hreq.trans (heq (hcount.symm.trans h))

/-- A change between states other than CONFIRMING that leaves candidate and count. -/
theorem confirmationLaw_setSeq {s : State} {x : Sequencer} (h : s.seq.state ≠ .confirming) (hx : x.state ≠ .confirming)
    (hc : x.candidate = s.seq.candidate) (hn : x.count = s.seq.count) : ConfirmationLaw s → ConfirmationLaw (s.setSeq x) := fun hconf => by
  obtain ⟨hnone, hzero⟩ := (confirmationLaw_other h).mp hconf
  exact confirmationLaw_quiet hx (hc.trans hnone) (hn.trans hzero)

/-- A change between states other than CONFIRMING that both have the ride cap in effect, or both do not, as moves. -/
theorem moves_setSeq {s : State} (x : Sequencer) (h : s.seq.state ≠ .confirming) (hx : x.state ≠ .confirming)
    (her : x.state.erInEffect = s.seq.state.erInEffect) (hkept : x = { s.seq with
      state := x.state, inUse := x.inUse, er := x.er, holdTimer := x.holdTimer, restoreTimer := x.restoreTimer }) :
    Moves Q s (s.setSeq x) :=
  (Move.sequencer (seqChange_setSeq her (by rw [hkept]) (by rw [hkept]) (confirmationLaw_setSeq h hx (by rw [hkept]) (by rw [hkept])))).moves

/-- R99 to R101: an entry into RIDING by way of a state that differs from `s` in the Sequencer and the held values. -/
theorem moves_enterRiding {s u : State} {q : ProfileNo} {voltage : Nat}
    (h : SeqChange s (u.setSeq (u.seq.ridden q (u.profile q) voltage))) : Moves Q s (u.enterRiding q voltage) := by
  rw [enterRiding_eq]
  exact ((Move.sequencer h).moves.tail (move_occur _ _ rfl)).tail .overtaken

/-! ## Frames (R97 to R115) -/

theorem moves_confirmRun {s : State} (h : s.seq.state.erInEffect = false) (c : ProfileNo) {n : Nat} (hn : 1 ≤ n) (voltage : Nat) :
    Moves Q s (s.confirmRun c n voltage).1 := by
  rcases Nat.lt_or_ge n (s.profile c).confirm with hlt | hge
  · rw [confirmRun_below hlt]
    refine (Move.sequencer (seqChange_setSeq ?_ ?_ ?_ fun _ => (confirmationLaw_confirming ?_).mpr ?_)).moves
    · exact h.symm
    · rfl
    · rfl
    · rfl
    · rw [runBelow_some (c := c) rfl]
      exact (Bool.and_eq_true _ _).mpr ⟨decide_eq_true hn, decide_eq_true hlt⟩
  · rw [confirmRun_reached hge, rideSnapshot_eq]
    generalize s.current = k
    refine moves_enterRiding ⟨rfl, .inr (.inl ⟨fun i => ?_, rfl⟩), id, fun _ => confirmationLaw_quiet SeqState.noConfusion rfl rfl⟩
    exact record_mapRecords _ _ _

theorem moves_frameInNormal {s : State} (h : s.seq.state = .normal) (m : Option ProfileNo) (voltage : Nat) :
    Moves Q s (s.frameInNormal m voltage).1 := by
  cases m with
  | none => exact .refl
  | some q => exact moves_confirmRun (by rw [h]; rfl) q le_rfl voltage

theorem moves_frameInConfirming {s : State} (h : s.seq.state = .confirming) (m : Option ProfileNo) (gap : Bool) (voltage : Nat) :
    Moves Q s (s.frameInConfirming m gap voltage).1 := by
  have her : s.seq.state.erInEffect = false := by rw [h]; rfl
  cases m with
  | none =>
    refine (Move.sequencer (seqChange_setSeq ?_ ?_ ?_ fun _ => confirmationLaw_quiet ?_ ?_ ?_)).moves
    · exact her.symm
    · rfl
    · rfl
    · exact SeqState.noConfusion
    · rfl
    · rfl
  | some q =>
    cases gap
    · exact moves_confirmRun her _ (Nat.le_add_left _ _) voltage
    · exact moves_confirmRun her q le_rfl voltage

theorem moves_frameInRiding {s : State} (h : s.seq.state = .riding) (m : Option ProfileNo) (voltage : Nat) :
    Moves Q s (s.frameInRiding m voltage).1 := by
  have hne : s.seq.state ≠ .confirming := by rw [h]; exact SeqState.noConfusion
  unfold State.frameInRiding
  dsimp only
  cases m with
  | none => exact moves_setSeq _ hne SeqState.noConfusion (by rw [h]; rfl) rfl
  | some q =>
    dsimp only
    split
    · exact moves_setSeq _ hne hne rfl rfl
    · split
      · exact moves_setSeq _ hne hne rfl rfl
      · exact .refl

/-- R103, R105: a match while the ride cap is in effect continues the ride. -/
theorem moves_frameInHold {s : State} (h : s.seq.state.erInEffect = true) (m : Option ProfileNo) (voltage : Nat) :
    Moves Q s (s.frameInHold m voltage).1 := by
  cases m with
  | none => exact .refl
  | some q =>
    exact moves_enterRiding
      (seqChange_setSeq (x := s.seq.ridden _ _ voltage) h.symm rfl rfl fun _ => confirmationLaw_quiet SeqState.noConfusion rfl rfl)

/-- R108: a re-entry is counted up to the limit, where resume-required sets. -/
theorem reentryLaw_counted {s t : State} {n : Nat} (h : ReentryLaw s) (htiming : t.timing = s.timing)
    (hn : n = if s.seq.reentries = s.timing.reentryLimit then s.seq.reentries else s.seq.reentries + 1) (hcount : t.seq.reentries = n)
    (hreq : t.seq.resumeRequired = (s.seq.resumeRequired || decide (n = s.timing.reentryLimit))) : ReentryLaw t := by
  obtain ⟨hlo, hhi, hle, -⟩ := h
  rw [ReentryLaw, htiming, hcount, hreq, Bool.or_eq_true, decide_eq_true_eq]
  refine ⟨hlo, hhi, ?_, .inr⟩
  rw [hn]
  split <;> omega

theorem moves_frameInRestoring {s : State} (h : s.seq.state = .restoring) (m : Option ProfileNo) (voltage : Nat) :
    Moves Q s (s.frameInRestoring m voltage).1 := by
  cases m with
  | none => exact .refl
  | some q =>
    rw [frameInRestoring_some]
    unfold State.reentered
    generalize s.current = k
    generalize hn : (if s.seq.reentries = s.timing.reentryLimit then s.seq.reentries else s.seq.reentries + 1) = n
    refine moves_enterRiding ⟨rfl, .inl ⟨fun _ => rfl, ?_⟩, fun hre => ?_, fun _ => confirmationLaw_quiet SeqState.noConfusion rfl rfl⟩
    · rw [h]; rfl
    · exact reentryLaw_counted hre rfl hn.symm rfl rfl

/-- R108: the Sequencer reaches NORMAL. -/
theorem moves_reachNormal {s u : State} {x : Sequencer} (hu : u = s.setSeq x) (hc : x.candidate = s.seq.candidate)
    (hn : x.count = s.seq.count) (h : s.seq.state ≠ .confirming) : Moves Q s u.reachNormal := by
  subst hu
  have hchange : SeqChange s (((s.setSeq x).setSeq { x with
      state := .normal, inUse := none, reentries := 0, resumeRequired := false, holdTimer := none, restoreTimer := none }).mapRecords DrawRecord.unhold) := by
    refine ⟨rfl, .inr (.inr ⟨fun i => record_mapRecords _ _ i, rfl⟩), fun ⟨hlo, hhi, _, _⟩ => ?_, fun hconf => ?_⟩
    · refine ⟨hlo, hhi, Nat.zero_le s.timing.reentryLimit, fun heq => absurd heq ?_⟩
      show (0 : Nat) ≠ s.timing.reentryLimit
      omega
    · obtain ⟨hnone, hzero⟩ := (confirmationLaw_other h).mp hconf
      exact confirmationLaw_quiet SeqState.noConfusion (hc.trans hnone) (hn.trans hzero)
  exact (Move.sequencer hchange).moves.tail (move_occur _ _ rfl)

theorem moves_frameInBlind {s : State} (h : s.seq.state = .blind) (m : Option ProfileNo) (voltage : Nat) :
    Moves Q s (s.frameInBlind m voltage).1 := by
  have hne : s.seq.state ≠ .confirming := by rw [h]; exact SeqState.noConfusion
  rcases Nat.eq_zero_or_pos s.seq.i0 with h0 | hpos
  · rw [frameInBlind_normal h0]
    exact (moves_reachNormal (x := s.seq) rfl rfl rfl hne).trans (moves_frameInNormal rfl m voltage)
  · have hholding : Moves Q s (s.enterHolding 8) := moves_setSeq _ hne SeqState.noConfusion (by rw [h]; rfl) rfl
    have hblind : s.frameInBlind m voltage = (s.enterHolding 8).frameInHold m voltage := if_neg (by omega)
    rw [hblind]
    exact hholding.trans (moves_frameInHold rfl m voltage)

theorem moves_seqFrame (s : State) (m : Option ProfileNo) (gap : Bool) (voltage : Nat) : Moves Q s (s.seqFrame m gap voltage).1 := by
  cases h : s.seq.state
  case normal => rw [seqFrame_normal h]; exact moves_frameInNormal h m voltage
  case confirming => rw [seqFrame_confirming h]; exact moves_frameInConfirming h m gap voltage
  case riding => rw [seqFrame_riding h]; exact moves_frameInRiding h m voltage
  case holding => rw [seqFrame_hold (.inl h)]; exact moves_frameInHold (by rw [h]; rfl) m voltage
  case latched => rw [seqFrame_hold (.inr h)]; exact moves_frameInHold (by rw [h]; rfl) m voltage
  case restoring => rw [seqFrame_restoring h]; exact moves_frameInRestoring h m voltage
  case blind => rw [seqFrame_blind h]; exact moves_frameInBlind h m voltage

/-! ## The Sequencer's timers (R104, R106, R111 to R113) -/

theorem moves_holdExpiry {s : State} (h : s.seq.state = .holding) : Moves Q s s.holdExpiry.1 := by
  have hne : s.seq.state ≠ .confirming := by rw [h]; exact SeqState.noConfusion
  unfold State.holdExpiry
  split
  · have hlatched : Moves Q s (s.setSeq { s.seq with state := .latched, holdTimer := none }) :=
      moves_setSeq _ hne SeqState.noConfusion (by rw [h]; rfl) rfl
    exact (hlatched.tail (move_occur _ _ rfl)).tail (move_captureAs _ _ _ _)
  · exact moves_setSeq _ hne SeqState.noConfusion (by rw [h]; rfl) rfl

theorem moves_restoreExpiry {s : State} (h : s.seq.state = .restoring) : Moves Q s s.restoreExpiry := by
  have hne : s.seq.state ≠ .confirming := by rw [h]; exact SeqState.noConfusion
  unfold State.restoreExpiry
  dsimp only
  split
  · exact moves_reachNormal rfl rfl rfl hne
  · exact moves_setSeq _ hne hne rfl rfl

/-- R111 to R113: the Sequencer in BLIND. -/
theorem seqChange_blind (s : State) : SeqChange s (s.silenceCap.setSeq { s.silenceCap.seq with
    state := .blind, inUse := some 8, candidate := none, count := 0, holdTimer := none, restoreTimer := none }) := by
  by_cases he : s.seq.state.erInEffect = true
  · rw [silenceCap_riding he]
    exact ⟨rfl, .inl ⟨fun _ => rfl, he.symm⟩, id, fun _ => confirmationLaw_quiet SeqState.noConfusion rfl rfl⟩
  · rw [silenceCap_normal he]
    generalize s.current = k
    exact ⟨rfl, .inr (.inl ⟨fun i => record_mapRecords _ _ i, rfl⟩), id, fun _ => confirmationLaw_quiet SeqState.noConfusion rfl rfl⟩

theorem moves_enterBlind (s : State) : Moves Q s s.enterBlind := by
  rw [enterBlind_eq, overtake_eq]
  exact (((Move.sequencer (seqChange_blind s)).moves.tail (move_captureAs _ _ _ _)).tail (move_occur _ _ rfl)).tail .overtaken

/-! ## The grid line (R76 to R82) -/

theorem moves_validFrame (s : State) (sequence : Nat) (pj : Bool) (v u : Nat) (d : Int) : Moves Q s (s.validFrame sequence pj v u d) := by
  have hgrid : Move Q s (s.setGrid (s.grid.intake sequence pj v u d)) := .outer rfl
  exact .head hgrid ((moves_seqFrame _ _ _ _).trans (moves_apply _ _))

/-- R141, R80: newly set line flags are reported. -/
theorem moves_reportLine (s : State) (n : Nat) : Moves Q s (s.reportLine n) :=
  (move_occurMember s srcLine n rfl).moves.tail (move_captureAs _ _ _ _)

theorem moves_raiseGrid (s : State) (mask : Byte) : Moves Q s (s.raiseGrid mask) := by
  have hgrid : Move Q s (s.setGrid { s.grid with flags := raised s.grid.flags mask }) := .outer rfl
  unfold State.raiseGrid
  dsimp only
  split
  · exact .head hgrid (moves_reportLine _ _)
  · exact hgrid.moves

theorem moves_giveUpGrid (s : State) (mask : Byte) : Moves Q s (s.giveUpGrid mask) := by
  have hgrid : Move Q s (s.setGrid { s.grid with receiver := .hunting }) := .outer rfl
  exact .head hgrid (moves_raiseGrid _ _)

theorem moves_gridFrameDone (s : State) (bs : List Byte) : Moves Q s (s.gridFrameDone bs) := by
  have hgrid : Move Q s (s.setGrid { s.grid with receiver := .hunting }) := .outer rfl
  refine .head hgrid ?_
  dsimp only [State.gridFrameDone]
  split
  · split
    · split
      · exact moves_validFrame _ _ _ _ _ _
      · exact (move_captureAs _ _ _ _).moves
    · exact moves_raiseGrid _ _
  · exact .refl

theorem moves_receiveGridByte (s : State) (b : Byte) : Moves Q s (s.receiveGridByte b) := by
  have hgrid : ∀ g, Moves Q s (s.setGrid g) := fun g => (Move.outer rfl).moves
  cases h : s.grid.receiver with
  | hunting =>
    rw [receiveGridByte_hunting h]
    split
    · exact hgrid _
    · exact .refl
  | receiving taken =>
    rw [receiveGridByte_receiving h]
    split
    · exact moves_gridFrameDone s _
    · exact hgrid _

theorem moves_hearGrid {s : State} {f : State → State} (h : Moves Q s (f s)) : Moves Q s (s.hearGrid f) := by
  unfold State.hearGrid
  split
  · exact (Move.outer rfl).moves
  · exact h

theorem moves_gridCharacter (s : State) (b : Byte) : Moves Q s (s.gridCharacter b) := moves_hearGrid (moves_receiveGridByte s b)

end

end Sys2Proof.Machine

/-!
The rectifier lines as series of moves, and with them every row.
-/

namespace Sys2Proof.Machine

section
variable {Q : Cmd → Prop}

/-! ## Channels (R124, R131, R134, R135, R137) -/

theorem marked_captures (xs : List FaultName) (k : Nat) (s : State) : Marked s (xs.foldl (fun u x => u.capture x k) s) := by
  induction xs generalizing s with
  | nil => exact .same rfl rfl
  | cons x xs ih => exact .trans (.capture s x k s.seq.state) (ih _)

theorem move_noteChannel (s : State) (c : Chan) (old new : Channel) : Move Q s (s.noteChannel c old new) := by
  refine .marks ?_ (marksOnly_noteChannel s c old new)
  have hnoted : Marked s (s.notedAt c old new) := by
    unfold State.notedAt
    split
    · exact .member s srcChannel _ rfl
    · exact .same rfl rfl
  rw [noteChannel_eq]
  exact .trans hnoted (marked_captures _ _ _)

theorem absorbAt_unbound {s : State} {c : Chan} (h : (s.channel c).owner = none) : s.absorbAt c = s := by
  simp only [State.absorbAt, h]

theorem absorbAt_bound {s : State} {c : Chan} {i : Slot} (h : (s.channel c).owner = some i) :
    s.absorbAt c = if (s.record i).live then s.absorbCapacity i else s := by
  simp only [State.absorbAt, h]

/-- R66: a capacity event is what it does to the record, with the pass request where a live record owns the channel. -/
theorem moves_capacityEvent (s : State) (c : Chan) : Moves Q (s.absorbAt c) (s.capacityEvent c) := by
  cases h : (s.channel c).owner with
  | none => rw [absorbAt_unbound h, capacityEvent_unbound h]
  | some i =>
    rw [absorbAt_bound h, capacityEvent_bound h]
    split
    · exact (move_requestPass _).moves
    · exact .refl

/-- A channel's record changed, with the capacity event where it is one. -/
theorem moves_changed {s : State} {c : Chan} {y : Channel} {event : Bool} (h : ChannelMove s c y event) :
    Moves Q s (if event then (s.setChannel c y).capacityEvent c else s.setChannel c y) := by
  have hreported : Moves Q s (s.reportedAt c y event) := (Move.reported c h).moves
  unfold State.reportedAt at hreported
  cases event
  · exact hreported
  · exact hreported.trans (moves_capacityEvent _ c)

theorem moves_changeChannel {s : State} {c : Chan} {y : Channel} {event : Bool} (h : ChannelMove s c y event) :
    Moves Q s (s.changeChannel c y event) := (moves_changed h).tail (move_noteChannel _ _ _ _)

theorem moves_raiseLine (s : State) (l : LineNo) (mask : Byte) : Moves Q s (s.raiseLine l mask) := by
  have hline : Move Q s (s.setLine l { s.line l with flags := raised (s.line l).flags mask }) := .outer rfl
  unfold State.raiseLine
  dsimp only
  split
  · exact .head hline (moves_reportLine _ _)
  · exact hline.moves

theorem moves_queueReply (s : State) (c : Chan) : Moves Q s (s.queueReply c) := by
  have hline : Move Q s (s.setLine (lineOf c) { s.line (lineOf c) with reply := some c }) := .outer rfl
  unfold State.queueReply
  dsimp only
  split
  · exact .head hline (moves_raiseLine _ _ _)
  · exact hline.moves

theorem moves_takeFetch (s : State) (c : Chan) (ready fault limit : Bool) (measured : Nat) :
    Moves Q s (s.takeFetch c ready fault limit measured) := by
  unfold State.takeFetch
  dsimp only
  split
  · exact ((moves_changed (.fetched ready fault limit measured)).tail (move_noteChannel _ _ _ _)).trans (moves_queueReply _ c)
  · exact .refl

/-! ## The rectifier lines (R120 to R129) -/

theorem move_setLine (s : State) (l : LineNo) (x : Line) : Move Q s (s.setLine l x) := .outer rfl

theorem moves_giveUp (s : State) (l : LineNo) (mask : Byte) : Moves Q s (s.giveUp l mask) :=
  .head (move_setLine s l _) (moves_raiseLine _ l mask)

theorem moves_fetchFrame (s : State) (l : LineNo) (bs : List Byte) : Moves Q s (s.fetchFrame l bs) := by
  refine .head (move_setLine s l { s.line l with receiver := .hunting }) ?_
  dsimp only [State.fetchFrame]
  split
  · split
    · exact moves_takeFetch _ _ _ _ _ _
    · exact moves_raiseLine _ _ _
  · exact .refl

theorem moves_receiveByte (s : State) (l : LineNo) (b : Byte) : Moves Q s (s.receiveByte l b) := by
  have hline : ∀ x, Moves Q s (s.setLine l x) := fun x => (move_setLine s l x).moves
  cases h : (s.line l).receiver with
  | hunting =>
    rw [receiveByte_hunting h]
    split
    · exact hline _
    · exact .refl
  | receiving taken =>
    rw [receiveByte_receiving h]
    split
    · exact moves_fetchFrame s l _
    · exact hline _
  | sending frame n =>
    rw [receiveByte_sending h]
    split
    · split
      · exact hline _
      · exact hline _
    · exact moves_giveUp s l _

theorem moves_hearLine {s : State} {l : LineNo} {f : State → State} (h : Moves Q s (f s)) : Moves Q s (s.hearLine l f) := by
  unfold State.hearLine
  split
  · exact (Move.outer rfl).moves
  · exact h

theorem moves_lineCharacter (s : State) (l : LineNo) (b : Byte) : Moves Q s (s.lineCharacter l b) :=
  moves_hearLine (moves_receiveByte s l b)

/-! ## The rows -/

theorem moves_whileRunning {s t : State} {f : State → State} (h : Moves Q s (f s)) (ht : whileRunning s f = .next t) : Moves Q s t := by
  unfold whileRunning at ht
  cases ht
  split
  · exact h
  · exact .refl

theorem moves_next {s t u : State} (h : Moves Q s u) (ht : (.next u : Host.Outcome State Fault Refusal) = .next t) : Moves Q s t := by
  cases ht; exact h

theorem moves_pinReset (s : State) : Moves Q s (if s.resetState = .powerHeld then s else s.restarted s.banks .pinHeld none Underway.nothing) := by
  split
  · exact .refl
  · exact (Move.restarted _ _ _ _ (.inl rfl)).moves

theorem moves_endOfReset (s : State) (begun : Underway) :
    Moves Q s (if s.resetState = .running then s else s.restarted s.banks .running (some Config.stepPeriod) begun) := by
  split
  · exact .refl
  · exact (Move.restarted _ _ _ _ (.inl rfl)).moves

theorem selectorOf_put {x : Byte} (h : selectorOf x = .put) : x = 0x5A := by
  by_contra hne
  have hput : ¬x = Config.putSelector := hne
  rw [selectorOf, if_neg hput] at h
  revert h
  split
  · exact Selector.noConfusion
  · split
    · exact Selector.noConfusion
    · split <;> exact Selector.noConfusion

/-- What a row asks of the codes it may put and of what it may clear, `A` being the codes whose commands `Q` allows. -/
structure RowAllowed (Q : Cmd → Prop) (A : CmdCode → Prop) (s : State) (c : Instr) : Prop where
  power : c = .powerOnReset → ∀ b, Q (.clearFaultBank b)
  sent : ∀ code ps, sentBytes c = some (code, ps) →
    CodeIn A s ∧ ∀ b ∈ s.firstJudged (code.byte :: ps), ∀ code', codeOf b = some code' → A code'
  put : (∃ b early, c = .put b early) ∨ (∃ b, c = .unknownSelector 0x5A b) → CodeIn A s

/-- The rows that are no transaction, no publication and no reset: those of the timers and of the lines. -/
inductive Outside : Instr → Prop where
  | stepTimerExpiry : Outside .stepTimerExpiry
  | engageTimerExpiry (i) : Outside (.engageTimerExpiry i)
  | releaseTimerExpiry (i) : Outside (.releaseTimerExpiry i)
  | fetch (c ready fault limit measured) : Outside (.fetch c ready fault limit measured)
  | fetchDiscard (l) : Outside (.fetchDiscard l)
  | fetchTimeLimit (l) : Outside (.fetchTimeLimit l)
  | rectifierCharacterError (l d) : Outside (.rectifierCharacterError l d)
  | replyBegin (l) : Outside (.replyBegin l)
  | grantComplete (l) : Outside (.grantComplete l)
  | collision (l) : Outside (.collision l)
  | staleTimerExpiry (c) : Outside (.staleTimerExpiry c)
  | lostTimerExpiry (c) : Outside (.lostTimerExpiry c)
  | gridFrame (second voltage unbalance deviation check) : Outside (.gridFrame second voltage unbalance deviation check)
  | gridFrameTimeLimit : Outside .gridFrameTimeLimit
  | gridCharacterError (d) : Outside (.gridCharacterError d)
  | silenceTimerExpiry : Outside .silenceTimerExpiry
  | holdTimerExpiry : Outside .holdTimerExpiry
  | restoreTimerExpiry : Outside .restoreTimerExpiry
  | rectifierLineCharacter (l b) : Outside (.rectifierLineCharacter l b)
  | gridLineCharacter (b) : Outside (.gridLineCharacter b)

/-- The rows of the timers and of the lines, in which no command is taken. -/
theorem moves_exec_outside {s t : State} {c : Instr} (hout : Outside c) (h : exec c s = .next t) : Moves Q s t := by
  cases hout
  case stepTimerExpiry =>
    have hrestart : Move Q s s.restartStep := .ramp _ (.inl rfl)
    rw [exec, execStepTimerExpiry] at h
    refine moves_whileRunning ?_ h
    split
    · split
      next hfly =>
        have hdeferred : Move Q s.restartStep (s.restartStep.setRamp { s.restartStep.ramp with deferred := s.restartStep.ramp.deferred + 1 }) :=
          .ramp _ (.inr hfly)
        exact hrestart.moves.tail hdeferred
      next => exact .head hrestart (moves_takeStep s.restartStep)
    · exact .refl
  case engageTimerExpiry i =>
    rw [exec, execEngageTimerExpiry] at h
    refine moves_whileRunning ?_ h
    split
    next hst => exact (move_completeEngagement hst.1).moves.tail (move_requestPass _)
    next => exact .refl
  case releaseTimerExpiry i =>
    rw [exec, execReleaseTimerExpiry] at h
    refine moves_whileRunning ?_ h
    split
    · exact (Move.freed i).moves.tail (move_requestPass _)
    · exact .refl
  case fetch =>
    rw [exec, execFetch] at h
    exact moves_whileRunning (moves_foldl (fun u b => moves_lineCharacter u _ b) _ s) h
  case fetchDiscard l =>
    rw [exec, execFetchDiscard] at h
    refine moves_whileRunning ?_ h
    split
    · exact .refl
    · split
      · exact .refl
      · exact moves_giveUp s l _
  case fetchTimeLimit l =>
    rw [exec, execFetchTimeLimit] at h
    refine moves_whileRunning ?_ h
    split
    · exact moves_giveUp s l _
    · exact .refl
  case rectifierCharacterError l d =>
    rw [exec, execRectifierCharacterError] at h
    refine moves_whileRunning (moves_hearLine ?_) h
    split
    · exact moves_giveUp s l _
    · exact moves_giveUp s l _
  case replyBegin l =>
    rw [exec, execReplyBegin] at h
    refine moves_whileRunning ?_ h
    split
    · exact (move_setLine s l _).moves
    · exact .refl
  case grantComplete l =>
    rw [exec, execGrantComplete] at h
    refine moves_whileRunning ?_ h
    split
    · exact (move_setLine s l _).moves
    · exact .refl
  case collision l =>
    rw [exec, execCollision] at h
    refine moves_whileRunning ?_ h
    split
    · exact moves_giveUp s l _
    · exact .refl
  case staleTimerExpiry c =>
    rw [exec, execStaleTimerExpiry] at h
    refine moves_whileRunning ?_ h
    dsimp only
    split
    next hst => exact moves_changeChannel (.frozen hst.1)
    next => exact .refl
  case lostTimerExpiry c =>
    rw [exec, execLostTimerExpiry] at h
    refine moves_whileRunning ?_ h
    dsimp only
    split
    next hst => exact moves_changeChannel (.lost hst.1)
    next => exact .refl
  case gridFrame =>
    rw [exec, execGridFrame] at h
    exact moves_whileRunning (moves_foldl moves_gridCharacter _ s) h
  case gridFrameTimeLimit =>
    rw [exec, execGridFrameTimeLimit] at h
    refine moves_whileRunning ?_ h
    split
    · exact .refl
    · exact moves_giveUpGrid s _
  case gridCharacterError =>
    rw [exec, execGridCharacterError] at h
    exact moves_whileRunning (moves_hearGrid (moves_giveUpGrid s _)) h
  case silenceTimerExpiry =>
    rw [exec, execSilenceTimerExpiry] at h
    refine moves_whileRunning ?_ h
    split
    · have hgrid : Move Q s (s.setGrid { s.grid with silenceTimer := none, seqRef := none }) := .outer rfl
      exact .head hgrid ((moves_enterBlind _).trans (moves_apply _ _))
    · exact .refl
  case holdTimerExpiry =>
    rw [exec, execHoldTimerExpiry] at h
    refine moves_whileRunning ?_ h
    split
    next hst => exact (moves_holdExpiry hst.1).trans (moves_apply _ _)
    next => exact .refl
  case restoreTimerExpiry =>
    rw [exec, execRestoreTimerExpiry] at h
    refine moves_whileRunning ?_ h
    split
    next hst => exact (moves_restoreExpiry hst.1).trans (moves_apply _ _)
    next => exact .refl
  case rectifierLineCharacter l b =>
    rw [exec, execRectifierLineCharacter] at h
    exact moves_whileRunning (moves_lineCharacter s l b) h
  case gridLineCharacter b =>
    rw [exec, execGridLineCharacter] at h
    exact moves_whileRunning (moves_gridCharacter s b) h

/-- Every row but those that are commands sent whole. -/
theorem moves_exec_unsent {A : CmdCode → Prop} (hsome : ∃ c, Q c) (hparse : ∀ code ps c, A code → parseCmd code ps = some c → Q c)
    (hnone : ∀ code, code.paramCount = 0 → A code) {s t : State} {c : Instr} (hrow : RowAllowed Q A s c)
    (hwait : ∀ w ∈ s.port.waiting, Q w) (hsent : sentBytes c = none) (h : exec c s = .next t) : Moves Q s t := by
  cases c <;> simp only [sentBytes, reduceCtorEq] at hsent
  case powerOnReset => exact moves_next (Move.restarted _ _ _ _ (.inr ⟨rfl, hrow.power rfl⟩)).moves h
  case pinReset => exact moves_next (moves_pinReset s) h
  case endOfReset begun => exact moves_next (moves_endOfReset s begun) h
  case put b early => exact moves_next (moves_transaction hsome fun _ => moves_putByte hsome hparse hnone (hrow.put (.inl ⟨b, early, rfl⟩)) b early) h
  case take early => exact moves_next (moves_transaction hsome fun hput => Selector.noConfusion hput) h
  case abort => exact moves_next (moves_transaction hsome fun hput => Selector.noConfusion hput) h
  case unknownSelector x b =>
    refine moves_next (moves_transaction hsome fun hput => moves_putByte hsome hparse hnone (hrow.put (.inr ⟨b, ?_⟩)) b false) h
    rw [selectorOf_put hput]
  case transactionCutShort => exact moves_next (moves_transact _ fun _ => (Move.port _ hsome).moves) h
  case publication part => exact moves_next (moves_publicationRow hsome hwait part) ((publicationRow_exec s part).symm.trans h)
  all_goals exact moves_exec_outside (by constructor) h

/-- Every row is a series of moves. -/
theorem moves_exec {A : CmdCode → Prop} (hsome : ∃ c, Q c) (hparse : ∀ code ps c, A code → parseCmd code ps = some c → Q c)
    (hnone : ∀ code, code.paramCount = 0 → A code) {s t : State} {c : Instr} (hrow : RowAllowed Q A s c)
    (hwait : ∀ w ∈ s.port.waiting, Q w) (h : exec c s = .next t) : Moves Q s t := by
  cases hsent : sentBytes c with
  | none => exact moves_exec_unsent hsome hparse hnone hrow hwait hsent h
  | some sent =>
    obtain ⟨code, ps⟩ := sent
    obtain ⟨hcode, hfirst⟩ := hrow.sent code ps hsent
    exact moves_next (moves_putAll hsome hparse hnone _ hcode hfirst) ((exec_sent hsent s).symm.trans h)

/-- Every step is a series of moves, of commands that read back and of those that wait. -/
theorem moves_step (hsome : ∃ c, Q c) (hparse : ∀ code ps c, parseCmd code ps = some c → Q c) (hclear : ∀ b, Q (.clearFaultBank b)) {s t : State}
    (hwait : ∀ w ∈ s.port.waiting, Q w) (h : step s = .next t) : Moves Q s t := by
  cases hp : s.pending with
  | nil => rw [step, hp] at h; exact moves_next .refl h
  | cons c rest =>
    rw [step, hp] at h
    have hrow : RowAllowed Q (fun _ => True) (s.setPending rest) c :=
      ⟨fun _ => hclear, fun _ _ _ => ⟨fun _ _ _ => trivial, fun _ _ _ _ => trivial⟩, fun _ _ _ _ => trivial⟩
    have hexec : Moves Q (s.setPending rest) t := moves_exec hsome (fun code ps c _ => hparse code ps c) (fun _ _ => trivial) hrow hwait h
    exact .head (b := s.setPending rest) (.outer rfl) hexec

end

/-- Every step is a series of moves. -/
theorem moves_step_any {s t : State} (h : step s = .next t) : Moves (fun _ => True) s t :=
  moves_step ⟨.resume, trivial⟩ (fun _ _ _ _ => trivial) (fun _ => trivial) (fun _ _ => trivial) h

/-- Every step is a series of moves in which commands in range alone are taken. -/
theorem moves_step_inRange {s t : State} (hwait : WaitingLaw s) (h : step s = .next t) : Moves (fun c => c.inRange = true) s t :=
  moves_step (Q := fun c => c.inRange = true) ⟨.resume, rfl⟩ (fun _ _ _ hp => (inRange_of_parse hp).2) (fun _ => rfl) (fun w hw => (hwait.2.2 w hw).2) h

end Sys2Proof.Machine

/-!
The laws of the attention sources and of the fault banks (R186 to R191, R194 to R197).
-/

namespace Sys2Proof.Machine

/-! ## The occurrences and captures of the composite operations -/

theorem marked_foldl {α : Type} {F : State → α → State} (hF : ∀ s a, Marked s (F s a)) (as : List α) (s : State) :
    Marked s (as.foldl F s) := by
  induction as generalizing s with
  | nil => exact .same rfl rfl
  | cons a as ih => exact (hF s a).trans (ih (F s a))

/-- An operation that writes records, channels and the Engine alone. -/
theorem marked_of_eq {s t : State} (h : { t with table := s.table, channels := s.channels, engine := s.engine } = s) : Marked s t := by
  have hatt := congrArg State.attention h
  have hbanks := congrArg State.banks h
  exact .same hatt hbanks

theorem marked_zeroShares (s : State) (i : Slot) : Marked s (s.zeroShares i) := marked_of_eq (by rw [zeroShares_eq])

theorem marked_reSplit (s : State) (i : Slot) : Marked s (s.reSplit i) := marked_of_eq (by rw [reSplit_eq])

theorem marked_endDescent (s : State) (i : Slot) : Marked s (s.endDescent i) := marked_of_eq (by rw [endDescent_eq]; rfl)

theorem marked_enterFree (s : State) (i : Slot) : Marked s (s.enterFree i) := marked_of_eq (by rw [enterFree_eq]; rfl)

theorem marked_requestIf (s : State) (b : Bool) : Marked s (s.requestIf b) := marked_of_eq (by rw [requestIf_eq]; rfl)

theorem marked_noteArrival (s : State) (i : Slot) (before : Nat) : Marked s (s.noteArrival i before) := by
  unfold State.noteArrival
  dsimp only
  split
  · exact .member _ srcArrival _ rfl
  · exact .same rfl rfl

theorem marked_movePresent (s : State) (i : Slot) (p : Nat) : Marked s (s.movePresent i p) := by
  have hset : Marked s (s.setRecord i { s.record i with present := p }) := .same rfl rfl
  exact (hset.trans (marked_reSplit _ i)).trans (marked_noteArrival _ i _)

theorem marked_faultRecord (s : State) (i : Slot) (x : FaultName) : Marked s (s.faultRecord i x) := by
  have hset : Marked (s.zeroShares i) ((s.zeroShares i).setRecord i
      { (s.zeroShares i).record i with state := .faulted, present := 0, engageTimer := none }) := .same rfl rfl
  exact (((marked_zeroShares s i).trans hset).trans (.capture _ x _ _)).trans (.member _ srcDrop _ rfl)

theorem marked_engagedAt (s : State) (i : Slot) : Marked s (s.engagedAt i) := by
  have hset : Marked s (s.setRecord i { s.record i with state := .active, present := (s.record i).floor, engageTimer := none }) :=
    .same rfl rfl
  exact (hset.trans (marked_reSplit _ i)).trans (.member _ srcArrival _ rfl)

theorem marked_absorbCapacity (s : State) (i : Slot) : Marked s (s.absorbCapacity i) := by
  rcases absorbCapacity_cases s i with ⟨e, -⟩ | ⟨e, -⟩ | ⟨e, -⟩ | ⟨e, -⟩ | ⟨e, -⟩ <;> rw [e]
  · exact .same rfl rfl
  · exact marked_reSplit s i
  · exact marked_movePresent s i _
  · exact marked_endDescent s i
  · exact marked_faultRecord s i _

theorem marked_absorbAt (s : State) (c : Chan) : Marked s (s.absorbAt c) := by
  cases h : (s.channel c).owner with
  | none => rw [absorbAt_unbound h]; exact .same rfl rfl
  | some i =>
    rw [absorbAt_bound h]
    split
    · exact marked_absorbCapacity s i
    · exact .same rfl rfl

theorem marked_reportedAt (s : State) (c : Chan) (y : Channel) (event : Bool) : Marked s (s.reportedAt c y event) := by
  have hset : Marked s (s.setChannel c y) := .same rfl rfl
  cases event
  · exact hset
  · exact hset.trans (marked_absorbAt _ c)

theorem marked_openedAt (s : State) (p : OpenParams) : Marked s (s.openedAt p) :=
  marked_of_eq (by rw [State.openedAt, updateFeeders_eq]; rfl)

/-! ## A publication -/

theorem marked_shedRecord (s : State) (i : Slot) : Marked s (s.shedRecord i) := by
  have hset : Marked (s.zeroShares i) ((s.zeroShares i).setRecord i { (s.zeroShares i).record i with
      state := .shed, present := 0, engageTimer := none, aim := ((s.zeroShares i).record i).target }) := .same rfl rfl
  exact ((marked_zeroShares s i).trans hset).trans (.member _ srcDrop _ rfl)

theorem marked_applyDrops (s : State) (dropped : List Slot) : Marked s (s.applyDrops dropped) := by
  have hshed := marked_foldl marked_shedRecord (dropped.filter s.dropEffective) s
  unfold State.applyDrops
  dsimp only
  split
  · exact hshed.trans (.capture _ .dropout _ _)
  · exact hshed

theorem marked_cutToGrant (s : State) (i : Slot) : Marked s (s.cutToGrant i) := by
  unfold State.cutToGrant
  dsimp only
  split
  · have hlower : Marked s (s.lowerFrozen (s.frozenSum i - (s.record i).grant) (s.record i).feeders.reverse) :=
      marked_of_eq (by rw [lowerFrozen_eq])
    exact (hlower.trans (marked_movePresent _ i _)).trans (marked_requestIf _ _)
  · exact .same rfl rfl

theorem marked_releaseCut (s : State) (i : Slot) : Marked s (s.releaseCut i) := by
  unfold State.releaseCut
  dsimp only
  split
  · exact (marked_endDescent s i).trans (marked_requestIf _ true)
  · exact .same rfl rfl

theorem marked_writeBreach (s : State) (n : Snapshot) : Marked s (s.writeBreach n) := by
  have hengine : Marked s (s.setEngine { s.engine with breach := n.breach }) := .same rfl rfl
  unfold State.writeBreach
  dsimp only
  split
  · exact hengine.trans (.capture _ .capBreach _ _)
  · exact hengine

theorem marked_publish (s : State) (n : Snapshot) : Marked s (s.publish n) := by
  have hgranted : Marked s (s.granted n) := by
    obtain ⟨table, -, h⟩ := granted_spec s n
    rw [h]
    exact .same rfl rfl
  have hadmitted : Marked s (s.admitted n) :=
    (hgranted.trans (marked_applyDrops _ _)).trans
      (marked_foldl (fun u i => by rw [engageRecord_eq]; exact .same rfl rfl) _ _)
  rw [publish_eq]
  exact (hadmitted.trans (marked_foldl (fun u i => (marked_cutToGrant u i).trans (marked_releaseCut _ i)) slots _)).trans
    (marked_writeBreach _ n)

/-- Every move but those of the attention commands, of CLEAR FAULT BANK and of a reset makes occurrences and captures alone. -/
theorem Move.marked {Q : Cmd → Prop} {s t : State} (h : Move Q s t) : Marked s t
    ∨ (∃ b, Q (.clearFaultBank b) ∧ t = s.setBank b FaultBank.empty)
    ∨ (t.banks = s.banks ∧ ∀ n, (t.source n).ip = (s.source n).ip ∧ (t.source n).members = (s.source n).members)
    ∨ (∃ n, t = s.setSource n ((s.source n).sensed (hasMembers n)))
    ∨ (t.attention = State.reset.attention ∧ (t.banks = s.banks ∨ (t.banks = emptyBanks ∧ ∀ b, Q (.clearFaultBank b)))) := by
  cases h
  case outer h =>
    have hatt := congrArg State.attention h
    have hbanks := congrArg State.banks h
    exact .inl (.same hatt hbanks)
  case port => exact .inl (.same rfl rfl)
  case overtaken => exact .inl (.same rfl rfl)
  case ramp => exact .inl (.same rfl rfl)
  case engine => exact .inl (.same rfl rfl)
  case marks h _ => exact .inl h
  case cleared b hq => exact .inr (.inl ⟨b, hq, rfl⟩)
  case served hrest h =>
    have hbanks := congrArg State.banks hrest
    exact .inr (.inr (.inl ⟨hbanks, h⟩))
  case sensed n => exact .inr (.inr (.inr (.inl ⟨n, rfl⟩)))
  case rewritten => exact .inl (.same rfl rfl)
  case moved i p _ _ _ => exact .inl (marked_movePresent s i p)
  case descended i _ => exact .inl (marked_endDescent s i)
  case faulted i x _ => exact .inl (marked_faultRecord s i x)
  case engaged i _ _ => exact .inl (marked_engagedAt s i)
  case opened p _ _ _ => exact .inl (marked_openedAt s p)
  case freed i => exact .inl (marked_enterFree s i)
  case settled => exact .inl (.same rfl rfl)
  case rearmed => exact .inl (.same rfl rfl)
  case reported c y event _ => exact .inl (marked_reportedAt s c y event)
  case timed => exact .inl (.same rfl rfl)
  case sequencer h =>
    have hatt := congrArg State.attention h.rest
    have hbanks := congrArg State.banks h.rest
    exact .inl (.same hatt hbanks)
  case published n _ => exact .inl (marked_publish s n)
  case restarted hbanks => exact .inr (.inr (.inr (.inr ⟨rfl, hbanks⟩)))

/-! ## The law of the attention sources (R187) -/

/-- R187: what the law says of one source. -/
abbrev AttentionSource.lawful (x : AttentionSource) (n : SourceNo) : Prop :=
  x.members.Pairwise (· < ·) ∧ if hasMembers n = true then (x.ip = true ↔ x.members ≠ []) else x.members = []

theorem lawful_withMember {x : AttentionSource} {n : SourceNo} (h : x.lawful n) (hm : hasMembers n = true) (m : Nat) :
    ({ x with ip := true, members := addMember m x.members } : AttentionSource).lawful n := by
  refine ⟨addMember_sorted m _ h.1, ?_⟩
  rw [if_pos hm]
  exact ⟨fun _ => addMember_ne_nil m _, fun _ => rfl⟩

theorem lawful_sensed {x : AttentionSource} {n : SourceNo} (h : x.lawful n) : (x.sensed (hasMembers n)).lawful n := by
  obtain ⟨hsorted, hrest⟩ := h
  unfold AttentionSource.sensed
  cases hm : hasMembers n with
  | false =>
    rw [hm, if_neg Bool.false_ne_true] at hrest
    exact ⟨hsorted, by rw [hm, if_neg Bool.false_ne_true]; exact hrest⟩
  | true =>
    refine ⟨hsorted.sublist (List.tail_sublist _), ?_⟩
    rw [hm, if_pos rfl]
    cases x.members.tail <;> simp

theorem attentionLaw_marked {s t : State} (h : Marked s t) : AttentionLaw s → AttentionLaw t := by
  induction h with
  | same hatt _ =>
    intro hs n
    rw [State.source, hatt]
    exact hs n
  | member s k m hk =>
    intro hs n
    rw [occurMember_source]
    split
    next heq => subst heq; exact lawful_withMember (hs _) hk m
    next => exact hs n
  | single s k hk =>
    intro hs n
    rw [occur_source]
    split
    next heq =>
      subst heq
      obtain ⟨hsorted, hrest⟩ := hs k
      rw [hk, if_neg Bool.false_ne_true] at hrest
      exact ⟨hsorted, by rw [hk, if_neg Bool.false_ne_true]; exact hrest⟩
    next => exact hs n
  | capture s x k st =>
    intro hs n
    rw [captureAs_source]
    split
    next heq => obtain ⟨-, rfl⟩ := heq; exact lawful_withMember (hs _) rfl _
    next => exact hs n
  | trans _ _ ih1 ih2 => exact fun hs => ih2 (ih1 hs)

theorem attentionLaw_move {Q : Cmd → Prop} {s t : State} (hs : AttentionLaw s) (h : Move Q s t) : AttentionLaw t := by
  rcases h.marked with h | ⟨b, -, rfl⟩ | ⟨-, h⟩ | ⟨k, rfl⟩ | ⟨hatt, -⟩
  · exact attentionLaw_marked h hs
  · exact hs
  · intro n
    obtain ⟨hip, hmembers⟩ := h n
    rw [hip, hmembers]
    exact hs n
  · intro n
    rw [source_setSource]
    split
    next heq => subst heq; exact lawful_sensed (hs _)
    next => exact hs n
  · intro n
    have hinitial : t.source n = AttentionSource.initial := by
      rw [State.source, hatt]
      exact get_replicate _ _
    rw [hinitial]
    exact ⟨.nil, by cases hasMembers n <;> simp [AttentionSource.initial]⟩

/-- Settles O59: every move keeps the law. -/
theorem attentionLawIsKept : Obligations.AttentionLawIsKept :=
  fun _ _ hs h => (moves_step_any h).keeps (fun _ _ => attentionLaw_move) hs

/-! ## The law of the banks, and their severity (R194 to R196) -/

/-- The severity of a bank, its overflow and its being valid have not fallen. -/
def FaultBank.noLess (a b : FaultBank) : Prop :=
  a.severity.code ≤ b.severity.code ∧ (a.overflow = true → b.overflow = true) ∧ (a.valid = true → b.valid = true)

theorem FaultBank.noLess_refl (a : FaultBank) : a.noLess a := ⟨le_rfl, id, id⟩

theorem FaultBank.noLess.trans {a b c : FaultBank} (h : a.noLess b) (k : b.noLess c) : a.noLess c := by
  obtain ⟨h1, h2, h3⟩ := h
  obtain ⟨k1, k2, k3⟩ := k
  exact ⟨h1.trans k1, k2 ∘ h2, k3 ∘ h3⟩

theorem FaultBank.take_valid (b : FaultBank) (x : FaultName) (k : Nat) (st : SeqState) : (b.take x k st).valid = true := by
  unfold FaultBank.take
  split
  · rfl
  · split
    · rfl
    next h _ => simpa using h

/-- R195, R196: a capture in a bank that is empty where it is not valid. -/
theorem FaultBank.noLess_take {b : FaultBank} (hb : b.valid = false → b = FaultBank.empty) (x : FaultName) (k : Nat) (st : SeqState) :
    b.noLess (b.take x k st) := by
  refine ⟨?_, ?_, fun _ => b.take_valid x k st⟩
  · unfold FaultBank.take
    split
    next h => rw [hb h]; exact Nat.zero_le _
    next =>
      split
      next h => exact h.le
      next => exact le_rfl
  · unfold FaultBank.take
    split
    next h => rw [hb h]; exact fun h' => Bool.noConfusion h'
    next => split <;> exact fun _ => rfl

theorem bankLaw_same {s t : State} (hbanks : t.banks = s.banks) (hs : BankLaw s) : BankLaw t ∧ ∀ b, (s.bank b).noLess (t.bank b) := by
  have hbank : ∀ b, t.bank b = s.bank b := fun b => by rw [State.bank, State.bank, hbanks]
  exact ⟨fun b hb => (hbank b).trans (hs b (by rwa [hbank b] at hb)), fun b => by rw [hbank b]; exact FaultBank.noLess_refl _⟩

/-- What captures alone do to the banks. -/
theorem bankLaw_marked {s t : State} (h : Marked s t) : BankLaw s → BankLaw t ∧ ∀ b, (s.bank b).noLess (t.bank b) := by
  induction h with
  | same _ hbanks => exact bankLaw_same hbanks
  | member s k m _ => exact fun hs => ⟨hs, fun b => FaultBank.noLess_refl _⟩
  | single s k _ => exact fun hs => ⟨hs, fun b => FaultBank.noLess_refl _⟩
  | capture s x k st =>
    intro hs
    refine ⟨fun b hb => ?_, fun b => ?_⟩
    · rw [captureAs_bank] at hb ⊢
      split at hb
      next heq => rw [FaultBank.take_valid] at hb; cases hb
      next hne => rw [if_neg hne]; exact hs b hb
    · rw [captureAs_bank]
      split
      · exact FaultBank.noLess_take (hs b) x k st
      · exact FaultBank.noLess_refl _
  | trans _ _ ih1 ih2 =>
    intro hs
    obtain ⟨ht, h1⟩ := ih1 hs
    obtain ⟨hu, h2⟩ := ih2 ht
    exact ⟨hu, fun b => (h1 b).trans (h2 b)⟩

/-- What a move does to the banks. -/
theorem bankLaw_move {Q : Cmd → Prop} {s t : State} (hs : BankLaw s) (h : Move Q s t) :
    BankLaw t ∧ ((∀ b, ¬Q (.clearFaultBank b)) → ∀ b, (s.bank b).noLess (t.bank b)) := by
  rcases h.marked with h | ⟨b, hq, rfl⟩ | ⟨hbanks, -⟩ | ⟨k, rfl⟩ | ⟨-, hbanks | ⟨hbanks, hq⟩⟩
  · obtain ⟨ht, hless⟩ := bankLaw_marked h hs
    exact ⟨ht, fun _ => hless⟩
  · refine ⟨fun d hd => ?_, fun hno => absurd hq (hno b)⟩
    rw [bank_setBank] at hd ⊢
    split
    · rfl
    next hne => rw [if_neg hne] at hd; exact hs d hd
  · exact (bankLaw_same hbanks hs).imp_right fun hless _ => hless
  · exact ⟨hs, fun _ b => FaultBank.noLess_refl _⟩
  · exact (bankLaw_same hbanks hs).imp_right fun hless _ => hless
  · refine ⟨fun b _ => ?_, fun hno => absurd (hq 0) (hno 0)⟩
    rw [State.bank, hbanks]
    exact get_replicate _ _

/-! ## A row that is no CLEAR FAULT BANK -/

theorem clear_of_codeOf {b : Byte} (h : codeOf b = some .clearFaultBank) : b = 0x59 := by
  have hbyte := List.find?_some h
  exact (of_decide_eq_true hbyte).symm

theorem row_of_sentClear {c : Instr} {ps : List Byte} (h : sentBytes c = some (.clearFaultBank, ps)) : ∃ b, c = .clearFaultBank b := by
  cases c <;> simp only [sentBytes, Option.some.injEq, Prod.mk.injEq, reduceCtorEq, false_and] at h
  exact ⟨_, rfl⟩

/-- R200: what the statement excludes of a row is all that lets it clear a bank. -/
theorem rowAllowed_noClear {s : State} {c : Instr} (hpower : c ≠ .powerOnReset) (hclear : ∀ b : Byte, c ≠ .clearFaultBank b)
    (hcode : s.port.code = some .clearFaultBank → sentBytes c = none ∧ (∀ (b : Byte) (early : Bool), c ≠ .put b early)
      ∧ ∀ b : Byte, c ≠ .unknownSelector 0x5A b)
    (hunderway : s.underway.port = true → ∀ (code : CmdCode) (ps : List Byte), sentBytes c ≠ some (code, 0x59 :: ps)) :
    RowAllowed (fun x => ∀ b, x ≠ .clearFaultBank b) (fun code => code ≠ .clearFaultBank) s c := by
  refine ⟨fun h => absurd h hpower, fun code ps h => ⟨fun _ code' hc heq => ?_, fun b hb code' hb' heq => ?_⟩, fun h _ code' hc heq => ?_⟩
  · subst heq
    rw [(hcode hc).1] at h
    cases h
  · subst heq
    have h59 : b = 0x59 := clear_of_codeOf hb'
    subst h59
    unfold State.firstJudged at hb
    cases hu : s.underway.port with
    | false =>
      rw [hu] at hb
      have hbyte : code.byte = 0x59 := by simpa using hb
      have hcode' : code = .clearFaultBank := by
        have e := codeOf_byte code
        rw [hbyte, hb'] at e
        exact (Option.some.inj e).symm
      subst hcode'
      obtain ⟨b, rfl⟩ := row_of_sentClear h
      exact hclear b rfl
    | true =>
      rw [hu] at hb
      cases ps with
      | nil => simp at hb
      | cons p ps =>
        have hp : p = 0x59 := by simpa using hb
        exact hunderway hu code ps (hp ▸ h)
  · subst heq
    obtain ⟨-, hput, hunknown⟩ := hcode hc
    rcases h with ⟨b, early, rfl⟩ | ⟨b, rfl⟩
    · exact hput b early rfl
    · exact hunknown b rfl

/-- A severity is kept by every series of moves among which no bank is cleared. -/
theorem noLess_moves {s t : State} (h : Moves (fun x => ∀ b, x ≠ .clearFaultBank b) s t) (hs : BankLaw s) (b : BankNo) :
    (s.bank b).noLess (t.bank b) := by
  have hkeeps : BankLaw t ∧ (s.bank b).noLess (t.bank b) :=
    h.keeps (P := fun u => BankLaw u ∧ (s.bank b).noLess (u.bank b)) (fun u v ⟨hu, hless⟩ hmove => by
      obtain ⟨hv, hmore⟩ := bankLaw_move hu hmove
      exact ⟨hv, hless.trans (hmore (fun d hd => hd d rfl) b)⟩) ⟨hs, FaultBank.noLess_refl _⟩
  exact hkeeps.2

/-- Settles O60: every move keeps the law, and the row is a series of moves among which no bank is cleared. -/
theorem severityNeverFalls : Obligations.SeverityNeverFalls := by
  intro s t c rest hs hwait hpending h
  refine ⟨(moves_step_any h).keeps (fun _ _ hu hmove => (bankLaw_move hu hmove).1) hs, fun hpower hclear hcode hunderway => ?_⟩
  rw [step, hpending] at h
  have hrow := rowAllowed_noClear (s := s.setPending rest) hpower hclear hcode hunderway
  have hmoves : Moves (fun x => ∀ b, x ≠ Cmd.clearFaultBank b) (s.setPending rest) t := by
    have hparse : ∀ (code : CmdCode) (ps : List Byte) (x : Cmd), code ≠ .clearFaultBank → parseCmd code ps = some x →
        ∀ b, x ≠ .clearFaultBank b := fun code ps x hne hx b hxb => hne (by rw [← (inRange_of_parse hx).1, hxb]; rfl)
    have hnone : ∀ code : CmdCode, code.paramCount = 0 → code ≠ .clearFaultBank := fun code h0 => by
      rcases paramCount_eq_zero h0 with rfl | rfl | rfl <;> exact CmdCode.noConfusion
    have hwaiting : ∀ w ∈ (s.setPending rest).port.waiting, ∀ b, w ≠ .clearFaultBank b := fun w hw b hwb => by
      have hwaits := (hwait.2.2 w hw).1
      rw [hwb] at hwaits
      cases hwaits
    exact moves_exec ⟨.resume, fun _ => Cmd.noConfusion⟩ hparse hnone hrow hwaiting h
  exact noLess_moves hmoves (s := s.setPending rest) hs

end Sys2Proof.Machine

/-!
What a move makes of the records, the Sequencer, the timing settings and the Engine; the laws of held values and of the Sequencer (R13,
R98, R108).
-/

namespace Sys2Proof.Machine

/-- The blocks that a reset leaves at their reset values. -/
structure Fresh (t : State) : Prop where
  table : t.table = State.reset.table
  channels : t.channels = State.reset.channels
  timing : t.timing = Timing.default
  seq : t.seq = Sequencer.initial
  engine : t.engine = Engine.initial

/-- What a move may be that is no publication, no reset and no change of the Sequencer by its own events and commands. -/
structure Ordinary (Q : Cmd → Prop) (s t : State) : Prop where
  records : ∀ i, RecordStep Q s i (t.record i)
  seqState : t.seq.state = s.seq.state
  settings : (t.seq = s.seq ∧ t.timing = s.timing) ∨ ∃ x, Q (.configureTiming x) ∧ t = s.timed x
  engine : t.engine = s.engine ∨ (t.table = s.table ∧ t.engine.publishedCap = s.engine.publishedCap
    ∧ t.engine.breach = s.engine.breach ∧ ∀ n, t.engine.pass = .running n → s.engine.pass = .running n ∨ n = s.snapshot)

section
variable {Q : Cmd → Prop} {s t : State}

/-- A move that changes no record, nor the Sequencer, the timing settings and the Engine. -/
theorem ordinary_of_eq (htable : t.table = s.table) (hseq : t.seq = s.seq) (htiming : t.timing = s.timing) (hengine : t.engine = s.engine) :
    Ordinary Q s t :=
  ⟨fun i => by rw [State.record, htable]; exact .kept, by rw [hseq], .inl ⟨hseq, htiming⟩, .inl hengine⟩

/-- A move of one record. -/
theorem ordinary_of_record (i : Slot) (hrec : ∀ j, t.record j = if i = j then t.record i else s.record j)
    (hstep : RecordStep Q s i (t.record i)) (hrest : RestKept s t) (hengine : t.engine = s.engine) : Ordinary Q s t := by
  refine ⟨fun j => ?_, by rw [hrest.seq], .inl ⟨hrest.seq, hrest.timing⟩, .inl hengine⟩
  rw [hrec]
  split
  next h => subst h; exact hstep
  next => exact .kept

theorem ordinary_setRecord (i : Slot) {r : DrawRecord} (h : RecordStep Q s i r) : Ordinary Q s (s.setRecord i r) :=
  ordinary_of_record i (fun j => by rw [record_setRecord, record_setRecord_self]) (by rw [record_setRecord_self]; exact h) rfl rfl

theorem ordinary_movePresent (i : Slot) (p : Nat) (h : (s.record i).mayMove p) : Ordinary Q s (s.movePresent i p) :=
  ordinary_of_record i (fun j => by rw [movePresent_record, movePresent_record, if_pos rfl])
    (by rw [movePresent_record, if_pos rfl]; exact .moved p h) (restKept_movePresent s i p) (movePresent_engine s i p)

theorem ordinary_endDescent (i : Slot) (h : (s.record i).state = .releasing) : Ordinary Q s (s.endDescent i) :=
  ordinary_of_record i (fun j => by rw [endDescent_record, endDescent_record, if_pos rfl])
    (by rw [endDescent_record, if_pos rfl]; exact .descended _ h) (restKept_endDescent s i) (endDescent_engine s i)

theorem faultRecord_record (i j : Slot) (x : FaultName) : (s.faultRecord i x).record j
    = if i = j then { s.record i with state := .faulted, present := 0, engageTimer := none } else s.record j := by
  rw [faultRecord_eq]
  exact record_setRecord _ _ _ _

theorem ordinary_faultRecord (i : Slot) (x : FaultName) (h : (s.record i).state = .active ∨ (s.record i).state = .engaging) :
    Ordinary Q s (s.faultRecord i x) :=
  ordinary_of_record i (fun j => by rw [faultRecord_record, faultRecord_record, if_pos rfl])
    (by rw [faultRecord_record, if_pos rfl]; exact .faulted h) (by rw [faultRecord_eq]; rfl) (by rw [faultRecord_eq]; rfl)

theorem engagedAt_eq (i : Slot) : ∃ u : State, u = s.setRecord i { s.record i with state := .active, present := (s.record i).floor, engageTimer := none }
    ∧ s.engagedAt i = { u with channels := (u.reSplit i).channels, attention := (s.engagedAt i).attention } := by
  refine ⟨_, rfl, ?_⟩
  rw [State.engagedAt, reSplit_eq]
  rfl

theorem engagedAt_record (i j : Slot) : (s.engagedAt i).record j
    = if i = j then { s.record i with state := .active, present := (s.record i).floor, engageTimer := none } else s.record j := by
  obtain ⟨u, rfl, h⟩ := engagedAt_eq (s := s) i
  rw [h]
  exact record_setRecord _ _ _ _

theorem ordinary_engagedAt (i : Slot) (h : (s.record i).state = .engaging) : Ordinary Q s (s.engagedAt i) := by
  refine ordinary_of_record i (fun j => by rw [engagedAt_record, engagedAt_record, if_pos rfl])
    (by rw [engagedAt_record, if_pos rfl]; exact .engaged h) ?_ ?_
  · obtain ⟨u, rfl, hu⟩ := engagedAt_eq (s := s) i
    rw [hu]; rfl
  · obtain ⟨u, rfl, hu⟩ := engagedAt_eq (s := s) i
    rw [hu]; rfl

theorem openedAt_record (p : OpenParams) (j : Slot) :
    (s.openedAt p).record j = if p.slot = j then openedRecord p s.seq.state else s.record j := by
  rw [State.openedAt, updateFeeders_record, record_setRecord]

theorem ordinary_openedAt {p : OpenParams} (hq : Q (.openDraw p)) (hreasons : s.openReasons p = 0) (hpass : s.unstarted) :
    Ordinary Q s (s.openedAt p) :=
  ordinary_of_record p.slot (fun j => by rw [openedAt_record, openedAt_record, if_pos rfl])
    (by rw [openedAt_record, if_pos rfl]; exact .opened p rfl hq hreasons hpass)
    (by rw [State.openedAt, updateFeeders_eq]; rfl) (by rw [State.openedAt, updateFeeders_eq]; rfl)

theorem enterFree_record (i j : Slot) : (s.enterFree i).record j = if i = j then DrawRecord.free else s.record j := by
  rw [enterFree_eq]
  exact record_setRecord _ _ _ _

theorem ordinary_enterFree (i : Slot) : Ordinary Q s (s.enterFree i) :=
  ordinary_of_record i (fun j => by rw [enterFree_record, enterFree_record, if_pos rfl])
    (by rw [enterFree_record, if_pos rfl]; exact .freed) (by rw [enterFree_eq]; rfl) (enterFree_engine s i)

/-- R66 to R69: what a capacity event does is a move of the record's present, its end, its fault or none. -/
theorem ordinary_absorbCapacity (i : Slot) : Ordinary Q s (s.absorbCapacity i) := by
  rcases absorbCapacity_cases s i with ⟨e, -⟩ | ⟨e, -⟩ | ⟨e, hst, hfloor, hlt⟩ | ⟨e, hst⟩ | ⟨e, hst⟩ <;> rw [e]
  · exact ordinary_of_eq rfl rfl rfl rfl
  · exact ordinary_of_eq (by rw [reSplit_eq]) (by rw [reSplit_eq]) (by rw [reSplit_eq]) (by rw [reSplit_eq])
  · refine ordinary_movePresent i _ ?_
    rcases hst with hst | hst
    · exact .inl ⟨hst, .inr ⟨hfloor, hlt.le⟩⟩
    · exact .inr ⟨hst, hlt.le⟩
  · exact ordinary_endDescent i hst
  · exact ordinary_faultRecord i _ (.inl hst)

theorem ordinary_absorbAt (c : Chan) : Ordinary Q s (s.absorbAt c) := by
  cases h : (s.channel c).owner with
  | none => rw [absorbAt_unbound h]; exact ordinary_of_eq rfl rfl rfl rfl
  | some i =>
    rw [absorbAt_bound h]
    split
    · exact ordinary_absorbCapacity i
    · exact ordinary_of_eq rfl rfl rfl rfl

theorem absorbAt_engine (s : State) (c : Chan) : (s.absorbAt c).engine = s.engine := by
  cases h : (s.channel c).owner with
  | none => rw [absorbAt_unbound h]
  | some i =>
    rw [absorbAt_bound h]
    split
    · rw [absorbCapacity_eq]
    · rfl

/-- What a record may become does not depend on the channels but for an OPEN DRAW. -/
theorem RecordStep.of_noOpen {u : State} {i : Slot} {r : DrawRecord} (h : RecordStep (fun _ => False) u i r)
    (hrec : u.record i = s.record i) (hengine : u.engine = s.engine) : RecordStep Q s i r := by
  cases h
  case kept => rw [hrec]; exact .kept
  case rewritten h =>
    refine .rewritten ?_
    cases h
    case aimed => rw [hrec]; exact .aimed
    case retargeted w h => rw [hrec] at h ⊢; exact .retargeted w h
    case amended h => rw [hrec] at h ⊢; exact .amended _ _ _ _ _ _ h
    case left h hpass => rw [hrec] at h ⊢; exact .left _ _ h fun n hn => hpass n (by rw [hengine]; exact hn)
  case moved p h => rw [hrec] at h ⊢; exact .moved p h
  case descended h => rw [hrec] at h ⊢; exact .descended _ h
  case faulted h => rw [hrec] at h ⊢; exact .faulted h
  case engaged h => rw [hrec] at h ⊢; exact .engaged h
  case opened hq _ _ => exact hq.elim
  case freed => exact .freed

theorem ordinary_reportedAt (c : Chan) (y : Channel) (event : Bool) : Ordinary Q s (s.reportedAt c y event) := by
  cases event
  · exact ordinary_of_eq rfl rfl rfl rfl
  · obtain ⟨hrecords, hstate, hsettings, -⟩ := ordinary_absorbAt (Q := fun _ => False) (s := s.setChannel c y) c
    refine ⟨fun i => (hrecords i).of_noOpen rfl rfl, hstate, ?_, .inl (absorbAt_engine (s.setChannel c y) c)⟩
    rcases hsettings with hsettings | ⟨x, hfalse, -⟩
    · exact .inl hsettings
    · exact hfalse.elim

/-- The four kinds of move. -/
theorem Move.kinds (h : Move Q s t) :
    SeqChange s t ∨ Fresh t ∨ (∃ n, s.engine.pass = .running n ∧ t = s.publish n) ∨ Ordinary Q s t := by
  have hordinary : Ordinary Q s t → SeqChange s t ∨ Fresh t ∨ (∃ n, s.engine.pass = .running n ∧ t = s.publish n) ∨ Ordinary Q s t :=
    fun h => .inr (.inr (.inr h))
  cases h
  case outer h =>
    have htable := congrArg State.table h
    have hseq := congrArg State.seq h
    have htiming := congrArg State.timing h
    have hengine := congrArg State.engine h
    exact hordinary (ordinary_of_eq htable hseq htiming hengine)
  case port => exact hordinary (ordinary_of_eq rfl rfl rfl rfl)
  case overtaken => exact hordinary (ordinary_of_eq rfl rfl rfl rfl)
  case ramp => exact hordinary (ordinary_of_eq rfl rfl rfl rfl)
  case engine e hcap hbreach hpass _ _ =>
    exact hordinary ⟨fun _ => .kept, rfl, .inl ⟨rfl, rfl⟩, .inr ⟨rfl, hcap, hbreach, hpass⟩⟩
  case marks hrest =>
    have htable := congrArg State.table hrest
    have htiming := congrArg State.timing hrest
    have hengine := congrArg State.engine hrest
    exact hordinary (ordinary_of_eq htable hrest.seq htiming hengine)
  case cleared => exact hordinary (ordinary_of_eq rfl rfl rfl rfl)
  case served hrest _ =>
    have htable := congrArg State.table hrest
    have hseq := congrArg State.seq hrest
    have htiming := congrArg State.timing hrest
    have hengine := congrArg State.engine hrest
    exact hordinary (ordinary_of_eq htable hseq htiming hengine)
  case sensed => exact hordinary (ordinary_of_eq rfl rfl rfl rfl)
  case rewritten i r h => exact hordinary (ordinary_setRecord i (.rewritten h))
  case moved i p h _ _ => exact hordinary (ordinary_movePresent i p h)
  case descended i h => exact hordinary (ordinary_endDescent i h)
  case faulted i x h => exact hordinary (ordinary_faultRecord i x (.inr h))
  case engaged i h _ => exact hordinary (ordinary_engagedAt i h)
  case opened hq hreasons hpass => exact hordinary (ordinary_openedAt hq hreasons hpass)
  case freed i => exact hordinary (ordinary_enterFree i)
  case settled => exact hordinary (ordinary_of_eq rfl rfl rfl rfl)
  case rearmed => exact hordinary (ordinary_of_eq rfl rfl rfl rfl)
  case reported c y event _ => exact hordinary (ordinary_reportedAt c y event)
  case timed x hq => exact hordinary ⟨fun _ => .kept, rfl, .inr ⟨x, hq, rfl⟩, .inl rfl⟩
  case sequencer h => exact .inl h
  case published n h => exact .inr (.inr (.inl ⟨n, h, rfl⟩))
  case restarted => exact .inr (.inl ⟨rfl, rfl, rfl, rfl, rfl⟩)

end

/-! ## Fresh states -/

theorem Fresh.record {t : State} (h : Fresh t) (i : Slot) : t.record i = DrawRecord.free := by
  rw [State.record, h.table]
  exact get_replicate _ _

theorem Fresh.channel {t : State} (h : Fresh t) (c : Chan) : t.channel c = Channel.blank := by
  rw [State.channel, h.channels]
  exact get_replicate _ _

/-! ## The law of held values (R13) -/

section
variable {Q : Cmd → Prop} {s t : State}

/-- R13: a move of a record keeps its held value while the record stays live. -/
theorem held_recordStep {i : Slot} {r : DrawRecord} (h : RecordStep Q s i r)
    (hs : (s.record i).held.isSome = ((s.record i).live && s.seq.state.erInEffect)) : r.held.isSome = (r.live && s.seq.state.erInEffect) := by
  have hkeep : ∀ {r' : DrawRecord}, (s.record i).state ≠ .free → r'.held = (s.record i).held → r'.state ≠ .free →
      r'.held.isSome = (r'.live && s.seq.state.erInEffect) := fun {r'} hlive hheld hlive' => by
    rw [hheld, hs, (live_iff _).mpr hlive, (live_iff r').mpr hlive']
  cases h
  case kept => exact hs
  case rewritten h =>
    cases h
    case aimed =>
      rw [lowerAim_eq]
      exact hs
    case retargeted => exact hs
    case amended => exact hs
    case left h _ => exact hkeep (by rcases h with h | h <;> rw [h] <;> exact RecordState.noConfusion) rfl RecordState.noConfusion
  case moved => exact hs
  case descended => exact hs
  case faulted h => exact hkeep (by rcases h with h | h <;> rw [h] <;> exact RecordState.noConfusion) rfl RecordState.noConfusion
  case engaged h => exact hkeep (by rw [h]; exact RecordState.noConfusion) rfl RecordState.noConfusion
  case opened p _ _ _ _ =>
    show (if s.seq.state.erInEffect then some p.floor else none).isSome = (true && s.seq.state.erInEffect)
    cases s.seq.state.erInEffect <;> rfl
  case freed => rfl

/-- What a publication leaves of a record. -/
theorem published_frame (r : DrawRecord) (g : Nat) (gone admitted : Prop) [Decidable gone] [Decidable admitted] (st : SeqState) (tm : Timing) :
    { r.published g gone admitted st tm with
      state := r.state, aim := r.aim, grant := r.grant, present := r.present, engageTimer := r.engageTimer, releaseTimer := r.releaseTimer } = r := by
  unfold DrawRecord.published
  split
  · rfl
  · split
    · rfl
    · split
      · rfl
      · split <;> rfl

/-- R18, R20, R58, R60: what a publication makes of the state, the aim and the present of a record. -/
theorem published_cases (r : DrawRecord) (g : Nat) (gone admitted : Prop) [Decidable gone] [Decidable admitted] (st : SeqState) (tm : Timing) :
    (gone ∧ (r.published g gone admitted st tm).state = .shed ∧ (r.published g gone admitted st tm).present = 0
      ∧ (r.published g gone admitted st tm).aim = r.target)
    ∨ (¬gone ∧ admitted ∧ (r.state = .pending ∨ r.state = .shed) ∧ (r.published g gone admitted st tm).state = .engaging
      ∧ (r.published g gone admitted st tm).present = 0 ∧ (r.published g gone admitted st tm).aim = r.aim)
    ∨ (¬gone ∧ r.state = .active ∧ (r.published g gone admitted st tm).state = .active
      ∧ (r.published g gone admitted st tm).present = min r.present g ∧ (r.published g gone admitted st tm).aim = r.aim)
    ∨ (¬gone ∧ r.state ≠ .active ∧ (r.published g gone admitted st tm).state = r.state
      ∧ ((r.published g gone admitted st tm).present = r.present ∨ (r.published g gone admitted st tm).present = 0)
      ∧ (r.published g gone admitted st tm).aim = r.aim) := by
  unfold DrawRecord.published
  by_cases hg : gone
  · rw [if_pos hg]; exact .inl ⟨hg, rfl, rfl, rfl⟩
  rw [if_neg hg]
  by_cases ha : admitted ∧ (r.state = .pending ∨ r.state = .shed)
  · rw [if_pos ha]; exact .inr (.inl ⟨hg, ha.1, ha.2, rfl, rfl, rfl⟩)
  rw [if_neg ha]
  by_cases hact : r.state = .active
  · rw [if_pos hact]; exact .inr (.inr (.inl ⟨hg, hact, hact, rfl, rfl⟩))
  rw [if_neg hact]
  refine .inr (.inr (.inr ⟨hg, hact, ?_⟩))
  split
  · exact ⟨rfl, .inr rfl, rfl⟩
  · exact ⟨rfl, .inl rfl, rfl⟩

/-- R18, R20: a publication makes no record FREE or live. -/
theorem publish_free (n : Snapshot) (i : Slot) : ((s.publish n).record i).state = .free ↔ (s.record i).state = .free := by
  rw [publish_record]
  rcases published_cases (s.record i) (if (s.record i).state = .free then 0 else n.grant i) (s.drops n i) (i ∈ n.admitted) s.seq.state
    s.timing with ⟨hg, hst, -⟩ | ⟨-, -, hold, hst, -⟩ | ⟨-, hold, hst, -⟩ | ⟨-, -, hst, -⟩
  · rw [hst]; rcases hg.2 with h | h <;> simp [h]
  · rw [hst]; rcases hold with h | h <;> simp [h]
  · rw [hst, hold]
  · rw [hst]

theorem publish_live (n : Snapshot) (i : Slot) : ((s.publish n).record i).live = (s.record i).live := by
  rw [Bool.eq_iff_iff, live_iff, live_iff]
  exact not_congr (publish_free n i)

theorem publish_held (n : Snapshot) (i : Slot) : ((s.publish n).record i).held = (s.record i).held := by
  rw [publish_record]
  have h := congrArg DrawRecord.held (published_frame (s.record i) (if (s.record i).state = .free then 0 else n.grant i) (s.drops n i)
    (i ∈ n.admitted) s.seq.state s.timing)
  exact h

theorem hold_held (r : DrawRecord) : r.hold.held.isSome = (r.live || r.held.isSome) := by
  unfold DrawRecord.hold
  cases h : r.live <;> simp

theorem hold_live (r : DrawRecord) : r.hold.live = r.live := by
  unfold DrawRecord.hold
  split <;> rfl

theorem heldLaw_move (hs : HeldLaw s) (h : Move Q s t) : HeldLaw t := by
  rcases h.kinds with h | h | ⟨n, -, rfl⟩ | h
  · intro i
    rcases h.held with ⟨hrec, her⟩ | ⟨hrec, her⟩ | ⟨hrec, her⟩
    · rw [hrec, her]; exact hs i
    · have hlive : (s.record i).held.isSome = true → (s.record i).live = true := fun hheld => by
        rw [hs i, Bool.and_eq_true] at hheld
        exact hheld.1
      rw [hrec, her, hold_held, hold_live, Bool.and_true]
      cases hb : (s.record i).live with
      | true => rfl
      | false =>
        rw [hb] at hlive
        cases hheld : (s.record i).held.isSome with
        | true => exact absurd (hlive hheld) Bool.false_ne_true
        | false => rfl
    · rw [hrec, her, Bool.and_false]; rfl
  · intro i
    rw [h.record, h.seq]; rfl
  · intro i
    rw [publish_held, publish_live, (restKept_publish s n).seq]
    exact hs i
  · intro i
    rw [h.seqState]
    exact held_recordStep (h.records i) (hs i)

/-- Settles O56: every move keeps the law. -/
theorem heldLawIsKept : Obligations.HeldLawIsKept :=
  fun _ _ hs h => (moves_step_any h).keeps (fun _ _ => heldLaw_move) hs

/-! ## The laws of the Sequencer (R98, R108) -/

theorem reentryLaw_timed {x : Timing} (hlo : 1 ≤ x.reentryLimit) (hhi : x.reentryLimit ≤ 15) : ReentryLaw (s.timed x) := by
  refine ⟨hlo, hhi, Nat.min_le_right _ _, fun heq => ?_⟩
  have hn : min s.seq.reentries x.reentryLimit = x.reentryLimit := heq
  show (s.seq.resumeRequired || decide (min s.seq.reentries x.reentryLimit = x.reentryLimit)) = true
  rw [decide_eq_true hn, Bool.or_true]

theorem confirmationLaw_of_seq (hseq : t.seq = s.seq) (h : ConfirmationLaw s) : ConfirmationLaw t := by
  have hrun : t.runBelow = s.runBelow := by unfold State.runBelow State.profile; rw [hseq]
  rw [ConfirmationLaw, hseq, hrun]
  exact h

theorem sequencerLaws_move (hQ : ∀ x, Q (.configureTiming x) → 1 ≤ x.reentryLimit ∧ x.reentryLimit ≤ 15)
    (hs : ReentryLaw s ∧ ConfirmationLaw s) (h : Move Q s t) : ReentryLaw t ∧ ConfirmationLaw t := by
  obtain ⟨hre, hconf⟩ := hs
  have hsame : t.seq = s.seq → t.timing = s.timing → ReentryLaw t ∧ ConfirmationLaw t := fun hseq htiming =>
    ⟨by rw [ReentryLaw, hseq, htiming]; exact hre, confirmationLaw_of_seq hseq hconf⟩
  rcases h.kinds with h | h | ⟨n, -, rfl⟩ | h
  · exact ⟨h.reentry hre, h.confirmation hconf⟩
  · refine ⟨?_, ?_⟩
    · rw [ReentryLaw, h.timing, h.seq]; decide
    · rw [ConfirmationLaw, h.seq]; exact ⟨rfl, rfl⟩
  · exact hsame (restKept_publish s n).seq (restKept_publish s n).timing
  · rcases h.settings with ⟨hseq, htiming⟩ | ⟨x, hq, rfl⟩
    · exact hsame hseq htiming
    · obtain ⟨hlo, hhi⟩ := hQ x hq
      refine ⟨reentryLaw_timed hlo hhi, ?_⟩
      exact hconf

theorem limit_of_inRange {x : Timing} (h : (Cmd.configureTiming x).inRange = true) : 1 ≤ x.reentryLimit ∧ x.reentryLimit ≤ 15 := by
  simp only [Cmd.inRange, Timing.inRange, decide_eq_true_eq] at h
  omega

/-- Settles O57: every move of commands in range keeps the laws. -/
theorem sequencerLawsAreKept : Obligations.SequencerLawsAreKept :=
  fun _ _ hre hconf hwait h =>
    (moves_step_inRange hwait h).keeps (fun _ _ => sequencerLaws_move fun _ => limit_of_inRange) ⟨hre, hconf⟩

end

end Sys2Proof.Machine

/-!
The laws of the draw records and of the pass (R1, R6, R8, R15, R17, R41, R45, R57).
-/

namespace Sys2Proof.Machine

/-! ## One record's part of each law -/

/-- R6, R8: floor ≤ target ≤ aim ≤ ceiling of a live record. -/
abbrev DrawRecord.banded (r : DrawRecord) : Prop :=
  r.live = true → 1 ≤ r.floor ∧ r.floor ≤ r.target ∧ r.target ≤ r.aim ∧ r.aim ≤ r.ceiling ∧ r.ceiling ≤ 4095

/-- R1: a FREE record holds the FREE values. -/
abbrev DrawRecord.emptied (r : DrawRecord) : Prop := r.state = .free → r = DrawRecord.free

/-- R15: a present stands in ACTIVE and RELEASING alone. -/
abbrev DrawRecord.presentLawful (r : DrawRecord) : Prop := r.present ≠ 0 → r.state = .active ∨ r.state = .releasing

/-- R15, R18: the present of an ACTIVE record, and the grant of an ENGAGING one. -/
abbrev DrawRecord.grantLawful (r : DrawRecord) : Prop :=
  (r.state = .active → r.floor ≤ r.present ∧ r.present ≤ r.grant) ∧ (r.state = .engaging → r.grant = r.floor)

section
variable {Q : Cmd → Prop} {s t : State} {i : Slot} {r : DrawRecord}

theorem targetReasons_zero {w : Nat} (h : r.targetReasons w = 0) :
    r.state ≠ .free ∧ r.state ≠ .releasing ∧ r.state ≠ .faulted ∧ r.floor ≤ w := by
  rw [targetReasons_eq] at h
  have h1 : ¬(r.state = .free ∨ r.state = .releasing ∨ r.state = .faulted) := fun h' => by rw [if_pos h'] at h; omega
  have h2 : ¬w < r.floor := fun h' => by rw [if_pos h'] at h; omega
  exact ⟨fun h' => h1 (.inl h'), fun h' => h1 (.inr (.inl h')), fun h' => h1 (.inr (.inr h')), not_lt.mp h2⟩

theorem not_free_of_noAmend (h : r.state.noAmend = false) : r.state ≠ .free ∧ r.state ≠ .releasing := by
  cases hst : r.state <;> simp_all [RecordState.noAmend]

theorem banded_recordStep (hQ : ∀ p, Q (.openDraw p) → 1 ≤ p.floor ∧ p.floor ≤ p.ceiling ∧ p.ceiling ≤ 4095) (h : RecordStep Q s i r)
    (hs : (s.record i).banded) : r.banded := by
  have hlive : ∀ {st : RecordState}, (s.record i).state = st → st ≠ .free → (s.record i).live = true := fun hst hne =>
    (live_iff _).mpr (hst ▸ hne)
  cases h
  case kept => exact hs
  case rewritten h =>
    cases h
    case aimed =>
      intro hl
      rw [lowerAim_eq] at hl ⊢
      obtain ⟨h1, h2, h3, h4, h5⟩ := hs hl
      refine ⟨h1, h2, ?_, ?_, h5⟩
      · show (s.record i).target ≤ (s.record i).lowerAim.aim
        rw [lowerAim_aim]
        split <;> omega
      · show (s.record i).lowerAim.aim ≤ (s.record i).ceiling
        rw [lowerAim_aim]
        split <;> omega
    case retargeted w h =>
      obtain ⟨hfree, -, -, hfloor⟩ := targetReasons_zero h
      intro _
      obtain ⟨h1, h2, h3, h4, h5⟩ := hs ((live_iff _).mpr hfree)
      refine ⟨h1, ?_, ?_, ?_, h5⟩
      · show (s.record i).floor ≤ min w (s.record i).ceiling
        omega
      · show min w (s.record i).ceiling ≤ (s.record i).aimFor _
        rw [aimFor_eq]
        split <;> omega
      · show (s.record i).aimFor (min w (s.record i).ceiling) ≤ (s.record i).ceiling
        rw [aimFor_eq]
        split <;> omega
    case amended => exact hs
    case left h _ =>
      intro _
      obtain ⟨h1, h2, h3, h4, h5⟩ := hs (by rcases h with h | h <;> exact hlive h RecordState.noConfusion)
      exact ⟨h1, le_rfl, le_rfl, (h2.trans h3).trans h4, h5⟩
  case moved => exact hs
  case descended => exact hs
  case faulted h => exact fun _ => hs (by rcases h with h | h <;> exact hlive h RecordState.noConfusion)
  case engaged h => exact fun _ => hs (hlive h RecordState.noConfusion)
  case opened p _ hq hreasons _ =>
    obtain ⟨h1, h2, h3⟩ := hQ p hq
    obtain ⟨-, -, -, -, htarget⟩ := (openReasons_eq_zero _ p).mp hreasons
    refine fun _ => ⟨h1, ?_, le_rfl, min_le_right _ _, h3⟩
    exact le_min htarget h2
  case freed => exact fun hl => Bool.noConfusion hl

theorem emptied_recordStep (h : RecordStep Q s i r) (hs : (s.record i).emptied) : r.emptied := by
  have habsurd : ∀ {st : RecordState} {P : Prop}, (s.record i).state = st → (s.record i).state = .free → st ≠ .free → P :=
    fun hst hfree hne => absurd (hst.symm.trans hfree) hne
  cases h
  case kept => exact hs
  case rewritten h =>
    cases h
    case aimed =>
      intro hfree
      have hfree' : (s.record i).state = .free := by rw [lowerAim_eq] at hfree; exact hfree
      rw [hs hfree']
      rfl
    case retargeted h => exact fun hfree => absurd hfree (targetReasons_zero h).1
    case amended h => exact fun hfree => absurd hfree (not_free_of_noAmend h).1
    case left => exact fun hfree => RecordState.noConfusion hfree
  case moved h =>
    intro hfree
    rcases h with ⟨hst, -⟩ | ⟨hst, -⟩
    · exact habsurd hst hfree RecordState.noConfusion
    · exact habsurd hst hfree RecordState.noConfusion
  case descended h => exact fun hfree => habsurd h hfree RecordState.noConfusion
  case faulted => exact fun hfree => RecordState.noConfusion hfree
  case engaged => exact fun hfree => RecordState.noConfusion hfree
  case opened => exact fun hfree => RecordState.noConfusion hfree
  case freed => exact fun _ => rfl

theorem presentLawful_recordStep (h : RecordStep Q s i r) (hs : (s.record i).presentLawful) : r.presentLawful := by
  cases h
  case kept => exact hs
  case rewritten h =>
    cases h
    case aimed => rw [lowerAim_eq]; exact hs
    case retargeted => exact hs
    case amended => exact hs
    case left => exact fun _ => .inr rfl
  case moved h =>
    intro _
    rcases h with ⟨hst, -⟩ | ⟨hst, -⟩
    · exact .inl hst
    · exact .inr hst
  case descended h => exact fun _ => .inr h
  case faulted => exact fun h => absurd rfl h
  case engaged => exact fun _ => .inl rfl
  case opened => exact fun h => absurd rfl h
  case freed => exact fun h => absurd rfl h

theorem grantLawful_recordStep (h : RecordStep Q s i r) (hs : (s.record i).grantLawful) : r.grantLawful := by
  obtain ⟨hactive, hengaging⟩ := hs
  cases h
  case kept => exact ⟨hactive, hengaging⟩
  case rewritten h =>
    cases h
    case aimed => rw [lowerAim_eq]; exact ⟨hactive, hengaging⟩
    case retargeted => exact ⟨hactive, hengaging⟩
    case amended => exact ⟨hactive, hengaging⟩
    case left => exact ⟨fun h => RecordState.noConfusion h, fun h => RecordState.noConfusion h⟩
  case moved p h =>
    refine ⟨fun hst => ?_, hengaging⟩
    have hst' : (s.record i).state = .active := hst
    obtain ⟨hlo, hhi⟩ := hactive hst'
    show (s.record i).floor ≤ p ∧ p ≤ (s.record i).grant
    rcases h with ⟨-, ⟨h1, h2⟩ | ⟨h1, h2⟩⟩ | ⟨hrel, -⟩
    · omega
    · omega
    · rw [hst'] at hrel; cases hrel
  case descended h => exact ⟨fun hst => absurd (h.symm.trans hst) RecordState.noConfusion, hengaging⟩
  case faulted => exact ⟨fun h => RecordState.noConfusion h, fun h => RecordState.noConfusion h⟩
  case engaged h => exact ⟨fun _ => ⟨le_rfl, (hengaging h).ge⟩, fun h => RecordState.noConfusion h⟩
  case opened => exact ⟨fun h => RecordState.noConfusion h, fun h => RecordState.noConfusion h⟩
  case freed => exact ⟨fun h => RecordState.noConfusion h, fun h => RecordState.noConfusion h⟩

/-! ## Held values are no part of these laws -/

theorem hold_frame (r : DrawRecord) : { r.hold with held := r.held } = r := by
  unfold DrawRecord.hold
  split <;> rfl

/-- What a change of the Sequencer leaves of a record: all but its held value; and of a FREE record, all but a held value it loses. -/
theorem SeqChange.frame (h : SeqChange s t) (i : Slot) : { t.record i with held := (s.record i).held } = s.record i
    ∧ ((s.record i).state = .free → (t.record i).held = (s.record i).held ∨ (t.record i).held = none) := by
  rcases h.held with ⟨hrec, -⟩ | ⟨hrec, -⟩ | ⟨hrec, -⟩
  · rw [hrec]; exact ⟨rfl, fun _ => .inl rfl⟩
  · rw [hrec]
    refine ⟨hold_frame _, fun hfree => .inl ?_⟩
    rw [DrawRecord.hold, if_neg]
    rw [live_iff]
    exact fun hne => hne hfree
  · rw [hrec]; exact ⟨rfl, fun _ => .inr rfl⟩

/-- A law of one record that says nothing of held values is kept by a change of the Sequencer. -/
theorem SeqChange.keeps {P : DrawRecord → Prop} (hP : ∀ (r : DrawRecord) (x : Option Nat), P { r with held := x } → P r) (h : SeqChange s t)
    (i : Slot) (hs : P (s.record i)) : P (t.record i) := by
  refine hP (t.record i) (s.record i).held ?_
  rw [(h.frame i).1]
  exact hs

theorem SeqChange.emptied (h : SeqChange s t) (i : Slot) (hs : (s.record i).emptied) : (t.record i).emptied := by
  obtain ⟨hframe, hheld⟩ := h.frame i
  intro hfree
  have hfree' : (s.record i).state = .free := by
    have hst := congrArg DrawRecord.state hframe
    exact hst.symm.trans hfree
  have hnone : (t.record i).held = none := by
    rcases hheld hfree' with h' | h'
    · rw [h', hs hfree']; rfl
    · exact h'
  have hback : t.record i = { ({ t.record i with held := (s.record i).held } : DrawRecord) with held := (t.record i).held } := rfl
  rw [hback, hframe, hnone, hs hfree']
  rfl

/-! ## A publication -/

/-- The parts of a record that a publication leaves. -/
theorem publish_frame (s : State) (n : Snapshot) (i : Slot) :
    { (s.publish n).record i with
      state := (s.record i).state, aim := (s.record i).aim, grant := (s.record i).grant, present := (s.record i).present,
      engageTimer := (s.record i).engageTimer, releaseTimer := (s.record i).releaseTimer } = s.record i := by
  rw [publish_record]
  exact published_frame _ _ _ _ _ _

theorem publish_floor (s : State) (n : Snapshot) (i : Slot) : ((s.publish n).record i).floor = (s.record i).floor := by
  have h := congrArg DrawRecord.floor (publish_frame s n i)
  exact h
theorem publish_ceiling (s : State) (n : Snapshot) (i : Slot) : ((s.publish n).record i).ceiling = (s.record i).ceiling := by
  have h := congrArg DrawRecord.ceiling (publish_frame s n i)
  exact h
theorem publish_target (s : State) (n : Snapshot) (i : Slot) : ((s.publish n).record i).target = (s.record i).target := by
  have h := congrArg DrawRecord.target (publish_frame s n i)
  exact h

theorem publish_grant (s : State) (n : Snapshot) (i : Slot) :
    ((s.publish n).record i).grant = if (s.record i).state = .free then 0 else n.grant i := by
  rw [publish_record]
  exact published_grant _ _ _ _ _ _

/-- What a publication makes of the record at a slot. -/
theorem publish_cases (s : State) (n : Snapshot) (i : Slot) :
    (s.drops n i ∧ ((s.publish n).record i).state = .shed ∧ ((s.publish n).record i).present = 0
      ∧ ((s.publish n).record i).aim = (s.record i).target)
    ∨ (¬s.drops n i ∧ i ∈ n.admitted ∧ ((s.record i).state = .pending ∨ (s.record i).state = .shed)
      ∧ ((s.publish n).record i).state = .engaging ∧ ((s.publish n).record i).present = 0
      ∧ ((s.publish n).record i).aim = (s.record i).aim)
    ∨ (¬s.drops n i ∧ (s.record i).state = .active ∧ ((s.publish n).record i).state = .active
      ∧ ((s.publish n).record i).present = min (s.record i).present ((s.publish n).record i).grant
      ∧ ((s.publish n).record i).aim = (s.record i).aim)
    ∨ (¬s.drops n i ∧ (s.record i).state ≠ .active ∧ ((s.publish n).record i).state = (s.record i).state
      ∧ (((s.publish n).record i).present = (s.record i).present ∨ ((s.publish n).record i).present = 0)
      ∧ ((s.publish n).record i).aim = (s.record i).aim) := by
  have h := published_cases (s.record i) (if (s.record i).state = .free then 0 else n.grant i) (s.drops n i) (i ∈ n.admitted) s.seq.state
    s.timing
  rw [publish_grant, publish_record]
  exact h

theorem banded_publish (n : Snapshot) (hs : (s.record i).banded) : ((s.publish n).record i).banded := by
  intro hl
  rw [publish_live] at hl
  obtain ⟨h1, h2, h3, h4, h5⟩ := hs hl
  rw [publish_floor, publish_ceiling, publish_target]
  have haim : ((s.publish n).record i).aim = (s.record i).target ∨ ((s.publish n).record i).aim = (s.record i).aim := by
    rcases publish_cases s n i with ⟨-, -, -, h⟩ | ⟨-, -, -, -, -, h⟩ | ⟨-, -, -, -, h⟩ | ⟨-, -, -, -, h⟩
    · exact .inl h
    · exact .inr h
    · exact .inr h
    · exact .inr h
  omega

/-- R38: a FREE record stays FREE at a publication. -/
theorem published_free {r : DrawRecord} (hr : r = DrawRecord.free) {gone : Prop} [Decidable gone] (hgone : ¬gone) (admitted : Prop)
    [Decidable admitted] (st : SeqState) (tm : Timing) : r.published 0 gone admitted st tm = DrawRecord.free := by
  subst hr
  have hadmit : ¬(admitted ∧ (DrawRecord.free.state = .pending ∨ DrawRecord.free.state = .shed)) := by simp [DrawRecord.free]
  have hactive : ¬DrawRecord.free.state = .active := RecordState.noConfusion
  have hrelease : ¬(DrawRecord.free.state = .releasing ∧ 0 < DrawRecord.free.present ∧ (st = .riding ∨ st = .blind)) := fun h =>
    RecordState.noConfusion h.1
  rw [DrawRecord.published, if_neg hgone, if_neg hadmit, if_neg hactive, if_neg hrelease]
  rfl

theorem emptied_publish (n : Snapshot) (hs : (s.record i).emptied) : ((s.publish n).record i).emptied := by
  intro hfree
  have hfree' := (publish_free n i).mp hfree
  have hgone : ¬s.drops n i := fun hd => by rcases hd.2 with h | h <;> rw [hfree'] at h <;> cases h
  rw [publish_record, if_pos hfree']
  exact published_free (hs hfree') hgone _ _ _

theorem presentLawful_publish (n : Snapshot) (hs : (s.record i).presentLawful) : ((s.publish n).record i).presentLawful := by
  intro hne
  rcases publish_cases s n i with ⟨-, -, h, -⟩ | ⟨-, -, -, -, h, -⟩ | ⟨-, -, h, -, -⟩ | ⟨-, -, hst, h | h, -⟩
  · exact absurd h hne
  · exact absurd h hne
  · exact .inl h
  · rw [hst]; exact hs (h ▸ hne)
  · exact absurd h hne

/-! ## The laws of the records (R1, R6, R8, R15) -/

theorem bandLaw_move (hQ : ∀ p, Q (.openDraw p) → 1 ≤ p.floor ∧ p.floor ≤ p.ceiling ∧ p.ceiling ≤ 4095) (hs : BandLaw s)
    (h : Move Q s t) : BandLaw t := by
  rcases h.kinds with h | h | ⟨n, -, rfl⟩ | h
  · exact fun i => h.keeps (P := DrawRecord.banded) (fun _ _ => id) i (hs i)
  · intro i
    rw [h.record]
    exact fun hl => Bool.noConfusion hl
  · exact fun i => banded_publish n (hs i)
  · exact fun i => banded_recordStep hQ (h.records i) (hs i)

theorem freeLaw_move (hs : FreeLaw s) (h : Move Q s t) : FreeLaw t := by
  rcases h.kinds with h | h | ⟨n, -, rfl⟩ | h
  · exact fun i => h.emptied i (hs i)
  · exact fun i _ => h.record i
  · exact fun i => emptied_publish n (hs i)
  · exact fun i => emptied_recordStep (h.records i) (hs i)

theorem presentLaw_move (hs : PresentLaw s) (h : Move Q s t) : PresentLaw t := by
  rcases h.kinds with h | h | ⟨n, -, rfl⟩ | h
  · exact fun i => h.keeps (P := DrawRecord.presentLawful) (fun _ _ => id) i (hs i)
  · intro i hne
    rw [h.record] at hne
    exact absurd rfl hne
  · exact fun i => presentLawful_publish n (hs i)
  · exact fun i => presentLawful_recordStep (h.records i) (hs i)

theorem open_of_inRange {p : OpenParams} (h : (Cmd.openDraw p).inRange = true) : 1 ≤ p.floor ∧ p.floor ≤ p.ceiling ∧ p.ceiling ≤ 4095 := by
  simp only [Cmd.inRange, OpenParams.inRange, Bool.and_eq_true, decide_eq_true_eq] at h
  omega

/-- Settles O52: every move of commands in range keeps each of the three laws. -/
theorem recordLawsAreKept : Obligations.RecordLawsAreKept := by
  intro s t hband hfree hpresent hwait h
  have hmoves := moves_step_inRange hwait h
  exact ⟨hmoves.keeps (fun _ _ => bandLaw_move fun _ => open_of_inRange) hband, hmoves.keeps (fun _ _ => freeLaw_move) hfree,
    hmoves.keeps (fun _ _ => presentLaw_move) hpresent⟩

end

end Sys2Proof.Machine

/-!
The laws of the pass and of its grants (R15, R17, R41, R45, R57).
-/

namespace Sys2Proof.Machine

section
variable {Q : Cmd → Prop} {s t : State}

/-! ## The laws as statements about any pass that runs -/

/-- R17, R45: the part of the law of the pass that speaks of one record. -/
abbrev SnapRecord.agrees (m : SnapRecord) (r : DrawRecord) : Prop :=
  m.floor = r.floor ∧ m.floor ≤ m.floorEff ∧ (r.state = .active → m.state = .active ∨ m.state = .engaging)
    ∧ (r.state = .engaging → m.state = .engaging)

theorem passLaw_iff (s : State) : PassLaw s ↔
    ∀ n, s.engine.pass = .running n → ∀ i, (s.record i).live = true → (n.record i).agrees (s.record i) := by
  unfold PassLaw
  cases h : s.engine.pass with
  | idle => simp
  | running m => exact ⟨fun hs n hn => by rw [← Pass.running.inj hn]; exact hs, fun hs => hs m rfl⟩
  | window => simp

theorem releaseLaw_iff (s : State) : ReleaseLaw s ↔ ∀ i, (s.record i).state = .releasing → (s.record i).present ≤ (s.record i).grant
    ∧ ∀ n, s.engine.pass = .running n → (n.record i).state = .releasing ∧ (s.record i).present ≤ (n.record i).present := by
  unfold ReleaseLaw
  refine forall_congr' fun i => imp_congr_right fun _ => and_congr_right fun _ => ?_
  cases h : s.engine.pass with
  | idle => simp
  | running m => exact ⟨fun hs n hn => by rw [← Pass.running.inj hn]; exact hs, fun hs => hs m rfl⟩
  | window => simp

/-- R41: the sum of the grants, while no breach stands. -/
abbrev GrantSumLaw (s : State) : Prop :=
  s.engine.breach = false → (slots.map fun i => (s.record i).grant).sum ≤ s.engine.publishedCap

theorem capLaw_of (hsum : GrantSumLaw s) (hgrant : GrantLaw s) (hrelease : ReleaseLaw s) (hpresent : PresentLaw s) : CapLaw s := by
  intro hb
  refine ⟨hsum hb, le_trans (List.sum_le_sum fun i _ => ?_) (hsum hb)⟩
  by_cases h0 : (s.record i).present = 0
  · omega
  · rcases hpresent i h0 with h | h
    · exact ((hgrant i).1 h).2
    · exact (hrelease i h).1

/-! ## A record while a pass runs (R45) -/

/-- What an ordinary move may do to a record while a pass runs: no record comes to life or leaves by a command. -/
theorem recordStep_running {i : Slot} {r : DrawRecord} {n : Snapshot} (hn : s.engine.pass = .running n) (h : RecordStep Q s i r)
    (hlive : r.live = true) : (s.record i).live = true ∧ r.floor = (s.record i).floor
      ∧ (r.state = .active → (s.record i).state = .active ∨ (s.record i).state = .engaging)
      ∧ (r.state = .engaging → (s.record i).state = .engaging)
      ∧ (r.state = .releasing → (s.record i).state = .releasing ∧ r.present ≤ (s.record i).present) := by
  cases h
  case kept => exact ⟨hlive, rfl, .inl, id, fun h => ⟨h, le_rfl⟩⟩
  case rewritten h =>
    cases h
    case aimed =>
      rw [lowerAim_eq] at hlive ⊢
      exact ⟨hlive, rfl, .inl, id, fun h => ⟨h, le_rfl⟩⟩
    case retargeted => exact ⟨hlive, rfl, .inl, id, fun h => ⟨h, le_rfl⟩⟩
    case amended => exact ⟨hlive, rfl, .inl, id, fun h => ⟨h, le_rfl⟩⟩
    case left hpass => exact absurd hn (hpass n)
  case moved p h =>
    refine ⟨hlive, rfl, .inl, id, fun hrel => ⟨hrel, ?_⟩⟩
    have hrel' : (s.record i).state = .releasing := hrel
    rcases h with ⟨hact, -⟩ | ⟨-, hle⟩
    · rw [hrel'] at hact; cases hact
    · exact hle
  case descended h => exact ⟨hlive, rfl, .inl, id, fun h => ⟨h, Nat.zero_le _⟩⟩
  case faulted h =>
    refine ⟨(live_iff _).mpr (by rcases h with h | h <;> rw [h] <;> exact RecordState.noConfusion), rfl, ?_, ?_, ?_⟩ <;>
      exact fun hst => RecordState.noConfusion hst
  case engaged h =>
    exact ⟨(live_iff _).mpr (by rw [h]; exact RecordState.noConfusion), rfl, fun _ => .inr h, fun hst => RecordState.noConfusion hst,
      fun hst => RecordState.noConfusion hst⟩
  case opened hpass => exact absurd hn (hpass n)
  case freed => exact Bool.noConfusion hlive

/-- The snapshot a pass takes agrees with the records it is taken of. -/
theorem snapshot_agrees (s : State) (i : Slot) : (s.snapshot.record i).agrees (s.record i) := by
  rw [Snapshot.record, snapshot_record]
  exact ⟨rfl, le_max_left _ _, .inl, id⟩

theorem passLaw_move (hs : PassLaw s) (h : Move Q s t) : PassLaw t := by
  rw [passLaw_iff] at hs ⊢
  intro n hn i hlive
  rcases h.kinds with h | h | ⟨m, -, rfl⟩ | h
  · have hengine := congrArg State.engine h.rest
    have hn' : s.engine.pass = .running n := (congrArg Engine.pass hengine).symm.trans hn
    have hlive' : (s.record i).live = true := h.keeps (P := fun r => r.live = true → (s.record i).live = true) (fun _ _ => id) i id hlive
    exact h.keeps (P := fun r => (n.record i).agrees r) (fun _ _ => id) i (hs n hn' i hlive')
  · rw [h.engine] at hn; cases hn
  · rw [publish_pass] at hn; cases hn
  · have hordinary : s.engine.pass = .running n → (n.record i).agrees (t.record i) := fun hn' => by
      obtain ⟨hlive', hfloor, hact, heng, -⟩ := recordStep_running hn' (h.records i) hlive
      obtain ⟨h1, h2, h3, h4⟩ := hs n hn' i hlive'
      refine ⟨by rw [hfloor]; exact h1, h2, fun hst => ?_, fun hst => h4 (heng hst)⟩
      rcases hact hst with h | h
      · exact h3 h
      · exact .inr (h4 h)
    rcases h.engine with hengine | ⟨htable, -, -, hpass⟩
    · exact hordinary (hengine ▸ hn)
    · rcases hpass n hn with hn' | rfl
      · exact hordinary hn'
      · rw [State.record, htable]; exact snapshot_agrees s i

/-! ## The grants of a publication (R31, R33 to R37) -/

theorem floorValue_active {m : SnapRecord} (h : m.state = .active) : m.floorValue = m.floorEff := by
  simp only [SnapRecord.floorValue, h]
theorem floorValue_engaging {m : SnapRecord} (h : m.state = .engaging) : m.floorValue = m.floor := by
  simp only [SnapRecord.floorValue, h]
theorem demand_engaging {m : SnapRecord} (h : m.state = .engaging) : m.demand = m.floor := by
  simp only [SnapRecord.demand, h]
theorem floorValue_releasing {m : SnapRecord} (h : m.state = .releasing) : m.floorValue = m.present := by
  simp only [SnapRecord.floorValue, h]

/-- R31, R33: an ACTIVE record that is not dropped is granted at least its floor, and an ENGAGING one its floor. -/
theorem grantLawful_publish {n : Snapshot} {i : Slot} (hs : (s.record i).grantLawful)
    (hagrees : (s.record i).live = true → (n.record i).agrees (s.record i)) : ((s.publish n).record i).grantLawful := by
  have hlive : ∀ {st : RecordState}, (s.record i).state = st → st ≠ .free → (n.record i).agrees (s.record i)
      ∧ ((s.publish n).record i).grant = n.grant i := fun hst hne => by
    have hnot : (s.record i).state ≠ .free := hst ▸ hne
    exact ⟨hagrees ((live_iff _).mpr hnot), by rw [publish_grant, if_neg hnot]⟩
  rw [DrawRecord.grantLawful, publish_floor]
  rcases publish_cases s n i with ⟨-, hst, -⟩ | ⟨-, hadm, hold, hst, -⟩ | ⟨hgone, hold, hst, hpresent, -⟩ | ⟨hgone, hna, hst, -⟩
  · rw [hst]; exact ⟨fun h => RecordState.noConfusion h, fun h => RecordState.noConfusion h⟩
  · obtain ⟨⟨hfloor, -⟩, hgrant⟩ : (n.record i).agrees (s.record i) ∧ ((s.publish n).record i).grant = n.grant i := by
      rcases hold with hold | hold <;> exact hlive hold RecordState.noConfusion
    rw [hst, hgrant, grant_admitted hadm, hfloor]
    exact ⟨fun h => RecordState.noConfusion h, fun _ => rfl⟩
  · obtain ⟨⟨hfloor, heff, hact, -⟩, hgrant⟩ := hlive hold RecordState.noConfusion
    have hmem : i ∈ n.survivors := mem_survivors.mpr ⟨(hact hold).imp_right .inl, fun hd => hgone ⟨hd, .inr hold⟩⟩
    have hge : (n.record i).floor ≤ (n.record i).floorValue := by
      rcases hact hold with h | h
      · rw [floorValue_active h]; exact heff
      · rw [floorValue_engaging h]
    obtain ⟨hlo, -⟩ := grant_bounds hmem
    obtain ⟨hpr, -⟩ := hs.1 hold
    refine ⟨fun _ => ?_, fun h => by rw [hst] at h; cases h⟩
    rw [hpresent, hgrant]
    omega
  · refine ⟨fun h => absurd (hst ▸ h) hna, fun h => ?_⟩
    have heng : (s.record i).state = .engaging := hst ▸ h
    obtain ⟨⟨hfloor, -, -, hn⟩, hgrant⟩ := hlive heng RecordState.noConfusion
    have hmem : i ∈ n.survivors := mem_survivors.mpr ⟨.inr (.inl (hn heng)), fun hd => hgone ⟨hd, .inl heng⟩⟩
    obtain ⟨hlo, hhi⟩ := grant_bounds hmem
    rw [floorValue_engaging (hn heng)] at hlo
    rw [demand_engaging (hn heng)] at hhi
    omega

theorem grantLaw_move (hs : GrantLaw s) (hpass : PassLaw s) (h : Move Q s t) : GrantLaw t := by
  rcases h.kinds with h | h | ⟨n, hn, rfl⟩ | h
  · exact fun i => h.keeps (P := DrawRecord.grantLawful) (fun _ _ => id) i (hs i)
  · intro i
    rw [h.record]
    exact ⟨fun h => RecordState.noConfusion h, fun h => RecordState.noConfusion h⟩
  · exact fun i => grantLawful_publish (hs i) ((passLaw_iff s).mp hpass n hn i)
  · exact fun i => grantLawful_recordStep (h.records i) (hs i)

/-- Settles O53: every move keeps the two laws together. -/
theorem presentStaysUnderItsGrant : Obligations.PresentStaysUnderItsGrant := by
  intro s t hgrant hpass _ _ h
  exact (moves_step_any h).keeps (P := fun u => GrantLaw u ∧ PassLaw u)
    (fun _ _ ⟨hg, hp⟩ hmove => ⟨grantLaw_move hg hp hmove, passLaw_move hp hmove⟩) ⟨hgrant, hpass⟩

/-! ## RELEASING records (R57) -/

theorem releasing_recordStep {i : Slot} {r : DrawRecord} (h : RecordStep Q s i r) (hgrant : (s.record i).grantLawful)
    (hpresent : (s.record i).presentLawful) (hs : (s.record i).state = .releasing → (s.record i).present ≤ (s.record i).grant)
    (hst : r.state = .releasing) : r.present ≤ r.grant := by
  cases h
  case kept => exact hs hst
  case rewritten h =>
    cases h
    case aimed => rw [lowerAim_eq] at hst ⊢; exact hs hst
    case retargeted => exact hs hst
    case amended => exact hs hst
    case left h _ =>
      rcases h with h | h
      · exact (hgrant.1 h).2
      · have h0 : (s.record i).present = 0 := by
          by_contra hne
          rcases hpresent hne with h' | h' <;> rw [h] at h' <;> cases h'
        show (s.record i).present ≤ _
        omega
  case moved p h =>
    have hst' : (s.record i).state = .releasing := hst
    rcases h with ⟨hact, -⟩ | ⟨-, hle⟩
    · rw [hst'] at hact; cases hact
    · exact hle.trans (hs hst')
  case descended => exact Nat.zero_le _
  case faulted => exact RecordState.noConfusion hst
  case engaged => exact RecordState.noConfusion hst
  case opened => exact RecordState.noConfusion hst
  case freed => exact RecordState.noConfusion hst

/-- R57, R60: a RELEASING record is granted at least the present it has. -/
theorem releasing_publish {n : Snapshot} {i : Slot} (hst : ((s.publish n).record i).state = .releasing)
    (hs : (s.record i).state = .releasing → (n.record i).state = .releasing ∧ (s.record i).present ≤ (n.record i).present) :
    ((s.publish n).record i).present ≤ ((s.publish n).record i).grant := by
  rcases publish_cases s n i with ⟨-, h, -⟩ | ⟨-, -, -, h, -⟩ | ⟨-, -, h, -⟩ | ⟨-, -, h, hpresent, -⟩
  · rw [h] at hst; cases hst
  · rw [h] at hst; cases hst
  · rw [h] at hst; cases hst
  · have hrel : (s.record i).state = .releasing := h ▸ hst
    obtain ⟨hn, hle⟩ := hs hrel
    have hmem : i ∈ n.survivors := mem_survivors.mpr ⟨.inr (.inr hn), not_dropped_of_releasing hn⟩
    obtain ⟨hlo, -⟩ := grant_bounds hmem
    rw [floorValue_releasing hn] at hlo
    rw [publish_grant, if_neg (by rw [hrel]; exact RecordState.noConfusion)]
    omega

theorem releaseLaw_move (hs : ReleaseLaw s) (hgrant : GrantLaw s) (hpresent : PresentLaw s) (h : Move Q s t) : ReleaseLaw t := by
  rw [releaseLaw_iff] at hs ⊢
  intro i hst
  rcases h.kinds with h | h | ⟨m, hm, rfl⟩ | h
  · have hengine := congrArg State.engine h.rest
    have hpass : ∀ n, t.engine.pass = .running n → s.engine.pass = .running n := fun n hn =>
      (congrArg Engine.pass hengine).symm.trans hn
    refine h.keeps (P := fun r => r.state = .releasing → r.present ≤ r.grant
      ∧ ∀ n, t.engine.pass = .running n → (n.record i).state = .releasing ∧ r.present ≤ (n.record i).present) (fun _ _ => id) i ?_ hst
    intro hst'
    obtain ⟨hle, hrun⟩ := hs i hst'
    exact ⟨hle, fun n hn => hrun n (hpass n hn)⟩
  · rw [h.record] at hst; cases hst
  · refine ⟨releasing_publish hst fun h => (hs i h).2 m hm, fun n hn => ?_⟩
    rw [publish_pass] at hn; cases hn
  · refine ⟨releasing_recordStep (h.records i) (hgrant i) (hpresent i) (fun h => (hs i h).1) hst, fun n hn => ?_⟩
    have hordinary : s.engine.pass = .running n → (n.record i).state = .releasing ∧ (t.record i).present ≤ (n.record i).present :=
      fun hn' => by
        obtain ⟨-, -, -, -, hrel⟩ := recordStep_running hn' (h.records i) ((live_iff _).mpr (by rw [hst]; exact RecordState.noConfusion))
        obtain ⟨hst', hle⟩ := hrel hst
        obtain ⟨h1, h2⟩ := (hs i hst').2 n hn'
        exact ⟨h1, hle.trans h2⟩
    rcases h.engine with hengine | ⟨htable, -, -, hpass⟩
    · exact hordinary (hengine ▸ hn)
    · rcases hpass n hn with hn' | rfl
      · exact hordinary hn'
      · rw [State.record, htable] at hst ⊢
        rw [Snapshot.record, snapshot_record]
        exact ⟨hst, le_rfl⟩

/-! ## The sum of the grants (R41) -/

theorem recordStep_grant {i : Slot} {r : DrawRecord} (h : RecordStep Q s i r) : r.grant ≤ (s.record i).grant := by
  cases h
  case kept => exact le_rfl
  case rewritten h =>
    cases h
    case aimed => rw [lowerAim_eq]
    case retargeted => exact le_rfl
    case amended => exact le_rfl
    case left => exact le_rfl
  case moved => exact le_rfl
  case descended => exact le_rfl
  case faulted => exact le_rfl
  case engaged => exact le_rfl
  case opened => exact Nat.zero_le _
  case freed => exact Nat.zero_le _

/-- The sum of the grants does not rise where no grant does, the cap and the breach standing. -/
theorem grantSumLaw_of_le (hs : GrantSumLaw s) (hgrant : ∀ i, (t.record i).grant ≤ (s.record i).grant)
    (hcap : t.engine.publishedCap = s.engine.publishedCap) (hbreach : t.engine.breach = s.engine.breach) : GrantSumLaw t := by
  intro hb
  rw [hbreach] at hb
  rw [hcap]
  exact le_trans (List.sum_le_sum fun i _ => hgrant i) (hs hb)

theorem grantSumLaw_move (hs : GrantSumLaw s) (h : Move Q s t) : GrantSumLaw t := by
  rcases h.kinds with h | h | ⟨n, -, rfl⟩ | h
  · have hengine : t.engine = s.engine := by
      have e := congrArg State.engine h.rest
      exact e
    refine grantSumLaw_of_le hs (fun i => ?_) (by rw [hengine]) (by rw [hengine])
    exact h.keeps (P := fun r => r.grant ≤ (s.record i).grant) (fun _ _ => id) i le_rfl
  · intro _
    have hzero : ∀ i ∈ slots, (t.record i).grant = 0 := fun i _ => by rw [h.record]; rfl
    rw [List.map_congr_left hzero]
    simp
  · have hbreach : (s.publish n).engine.breach = n.breach := by
      have e := congrArg Engine.breach (publish_engine s n).1
      exact e
    have hcap : (s.publish n).engine.publishedCap = n.cap := by
      have e := congrArg Engine.publishedCap (publish_engine s n).1
      exact e
    intro hb
    rw [hbreach] at hb
    rw [hcap]
    refine le_trans (List.sum_le_sum fun i _ => ?_) (sum_grants_le hb)
    rw [publish_grant]
    split
    · exact Nat.zero_le _
    · exact le_rfl
  · refine grantSumLaw_of_le hs (fun i => recordStep_grant (h.records i)) ?_ ?_
    · rcases h.engine with hengine | ⟨-, hcap, -⟩
      · rw [hengine]
      · exact hcap
    · rcases h.engine with hengine | ⟨-, -, hbreach, -⟩
      · rw [hengine]
      · exact hbreach

/-- Settles O54: every move keeps the sum of the grants and the laws of the presents, and with them the law of the allocation. -/
theorem sumsStayUnderPublishedCap : Obligations.SumsStayUnderPublishedCap := by
  intro s t hcap hrelease hgrant hpass hpresent _ _ h
  have hsum : GrantSumLaw s := fun hb => (hcap hb).1
  obtain ⟨ht, kt, rt, pt, -⟩ := (moves_step_any h).keeps
    (P := fun u => GrantSumLaw u ∧ GrantLaw u ∧ ReleaseLaw u ∧ PresentLaw u ∧ PassLaw u)
    (fun _ _ ⟨h1, h2, h3, h4, h5⟩ hmove => ⟨grantSumLaw_move h1 hmove, grantLaw_move h2 h5 hmove, releaseLaw_move h3 h2 h4 hmove,
      presentLaw_move h4 hmove, passLaw_move h5 hmove⟩) ⟨hsum, hgrant, hrelease, hpresent, hpass⟩
  exact ⟨capLaw_of ht kt rt pt, rt⟩

end

end Sys2Proof.Machine

/-!
The laws of tags and of feeders (R2, R11, R12).
-/

namespace Sys2Proof.Machine

section
variable {Q : Cmd → Prop} {s t : State}

/-! ## Moves by which no record is opened -/

/-- Commands that are no OPEN DRAW. -/
abbrev NoOpen (c : Cmd) : Prop := ∀ p, c ≠ .openDraw p

/-- A move is the effect of an OPEN DRAW, or opens no record. -/
theorem Move.opened_or (h : Move Q s t) :
    (∃ p, Q (.openDraw p) ∧ s.openReasons p = 0 ∧ s.unstarted ∧ t = s.openedAt p) ∨ Move NoOpen s t := by
  have hclear : ∀ b, NoOpen (.clearFaultBank b) := fun _ _ => Cmd.noConfusion
  have hsome : ∃ c, NoOpen c := ⟨.resume, fun _ => Cmd.noConfusion⟩
  cases h
  case opened p hq hreasons hpass => exact .inl ⟨p, hq, hreasons, hpass, rfl⟩
  case outer h => exact .inr (.outer h)
  case port p _ => exact .inr (.port p hsome)
  case overtaken => exact .inr .overtaken
  case ramp x h => exact .inr (.ramp x h)
  case engine e hcap hbreach hpass hflies hrerun => exact .inr (.engine e hcap hbreach hpass (hflies.imp_right fun _ => hsome) hrerun)
  case marks h hrest => exact .inr (.marks h hrest)
  case cleared b _ => exact .inr (.cleared b (hclear b))
  case served hrest h => exact .inr (.served hrest h)
  case sensed n => exact .inr (.sensed n)
  case rewritten i r h => exact .inr (.rewritten i h)
  case moved i p h1 h2 h3 => exact .inr (.moved i p h1 h2 h3)
  case descended i h => exact .inr (.descended i h)
  case faulted i x h => exact .inr (.faulted i x h)
  case engaged i h1 h2 => exact .inr (.engaged i h1 h2)
  case freed i => exact .inr (.freed i)
  case settled c e w h => exact .inr (.settled c e w h)
  case rearmed c h => exact .inr (.rearmed c h)
  case reported c y event h => exact .inr (.reported c h)
  case timed x _ => exact .inr (.timed x fun _ => Cmd.noConfusion)
  case sequencer h => exact .inr (.sequencer h)
  case published n h => exact .inr (.published n h)
  case restarted banks r step begun hbanks => exact .inr (.restarted banks r step begun (hbanks.imp_right fun h => ⟨h.1, hclear⟩))

/-! ## Tags (R2) -/

/-- Where no record is opened, a live record was live before, with its tag and its feeders. -/
theorem recordStep_noOpen {i : Slot} {r : DrawRecord} (h : RecordStep NoOpen s i r) (hlive : r.live = true) :
    (s.record i).live = true ∧ r.tag = (s.record i).tag ∧ r.feeders = (s.record i).feeders := by
  cases h
  case kept => exact ⟨hlive, rfl, rfl⟩
  case rewritten h =>
    cases h
    case aimed => rw [lowerAim_eq] at hlive ⊢; exact ⟨hlive, rfl, rfl⟩
    case retargeted => exact ⟨hlive, rfl, rfl⟩
    case amended => exact ⟨hlive, rfl, rfl⟩
    case left h _ => exact ⟨(live_iff _).mpr (by rcases h with h | h <;> rw [h] <;> exact RecordState.noConfusion), rfl, rfl⟩
  case moved => exact ⟨hlive, rfl, rfl⟩
  case descended => exact ⟨hlive, rfl, rfl⟩
  case faulted h => exact ⟨(live_iff _).mpr (by rcases h with h | h <;> rw [h] <;> exact RecordState.noConfusion), rfl, rfl⟩
  case engaged h => exact ⟨(live_iff _).mpr (by rw [h]; exact RecordState.noConfusion), rfl, rfl⟩
  case opened hq _ _ => exact absurd rfl (hq _)
  case freed => exact Bool.noConfusion hlive

theorem publish_tag (s : State) (n : Snapshot) (i : Slot) : ((s.publish n).record i).tag = (s.record i).tag := by
  have h := congrArg DrawRecord.tag (publish_frame s n i)
  exact h

/-- Tags stay apart where every live record was live before with its tag. -/
theorem tagLaw_of_live (hs : TagLaw s)
    (h : ∀ i, (t.record i).live = true → (s.record i).live = true ∧ (t.record i).tag = (s.record i).tag) : TagLaw t := by
  intro i j hi hj heq
  obtain ⟨hi', htag⟩ := h i hi
  obtain ⟨hj', htag'⟩ := h j hj
  exact hs i j hi' hj' (htag.symm.trans (heq.trans htag'))

/-- R2, R164: a record is opened with a tag that no live record carries. -/
theorem tagLaw_openedAt {p : OpenParams} (hs : TagLaw s) (hreasons : s.openReasons p = 0) : TagLaw (s.openedAt p) := by
  obtain ⟨-, hfresh, -⟩ := (openReasons_eq_zero _ p).mp hreasons
  intro i j hi hj heq
  rw [openedAt_record] at hi heq
  rw [openedAt_record] at hj heq
  by_cases hpi : p.slot = i <;> by_cases hpj : p.slot = j
  · exact hpi.symm.trans hpj
  · rw [if_pos hpi, if_neg hpj] at heq
    rw [if_neg hpj] at hj
    exact absurd heq.symm (hfresh j ((live_iff _).mp hj))
  · rw [if_neg hpi, if_pos hpj] at heq
    rw [if_neg hpi] at hi
    exact absurd heq (hfresh i ((live_iff _).mp hi))
  · rw [if_neg hpi, if_neg hpj] at heq
    rw [if_neg hpi] at hi
    rw [if_neg hpj] at hj
    exact hs i j hi hj heq

theorem tagLaw_move (hs : TagLaw s) (h : Move Q s t) : TagLaw t := by
  rcases h.opened_or with ⟨p, -, hreasons, -, rfl⟩ | h
  · exact tagLaw_openedAt hs hreasons
  rcases h.kinds with h | h | ⟨n, -, rfl⟩ | h
  · exact tagLaw_of_live hs fun i hl =>
      h.keeps (P := fun r => r.live = true → (s.record i).live = true ∧ r.tag = (s.record i).tag) (fun _ _ => id) i (fun hl => ⟨hl, rfl⟩) hl
  · intro i j hi
    rw [h.record] at hi
    exact Bool.noConfusion hi
  · exact tagLaw_of_live hs fun i hl => ⟨by rwa [publish_live] at hl, publish_tag s n i⟩
  · exact tagLaw_of_live hs fun i hl => by
      obtain ⟨h1, h2, -⟩ := recordStep_noOpen (h.records i) hl
      exact ⟨h1, h2⟩

/-! ## What binds a channel (R11, R12) -/

/-- From `s` to `t` every record keeps its feeder list and every channel its owner. -/
structure BindingKept (s t : State) : Prop where
  feeders : ∀ i, (t.record i).feeders = (s.record i).feeders
  owner : ∀ c, (t.channel c).owner = (s.channel c).owner

theorem BindingKept.trans {u : State} (h : BindingKept s t) (k : BindingKept t u) : BindingKept s u :=
  ⟨fun i => (k.feeders i).trans (h.feeders i), fun c => (k.owner c).trans (h.owner c)⟩

theorem BindingKept.refl (s : State) : BindingKept s s := ⟨fun _ => rfl, fun _ => rfl⟩

theorem bindingKept_of_eq (htable : t.table = s.table) (hchannels : t.channels = s.channels) : BindingKept s t :=
  ⟨fun i => by rw [State.record, htable]; rfl, fun c => by rw [State.channel, hchannels]; rfl⟩

/-- An operation that keeps feeder lists and touches shares alone of the channels. -/
theorem bindingKept_of_shares (hfeeders : ∀ i, (t.record i).feeders = (s.record i).feeders)
    (hshares : ∀ c, SharesOnly (s.channel c) (t.channel c)) : BindingKept s t := ⟨hfeeders, fun c => (hshares c).owner⟩

theorem bindingKept_setRecord (i : Slot) {r : DrawRecord} (h : r.feeders = (s.record i).feeders) : BindingKept s (s.setRecord i r) := by
  refine ⟨fun j => ?_, fun _ => rfl⟩
  rw [record_setRecord]
  split
  next heq => subst heq; exact h
  next => rfl

theorem bindingKept_setChannel (c : Chan) {x : Channel} (h : x.owner = (s.channel c).owner) : BindingKept s (s.setChannel c x) := by
  refine ⟨fun _ => rfl, fun d => ?_⟩
  rw [channel_setChannel]
  split
  next heq => subst heq; exact h
  next => rfl

theorem bindingKept_reSplit (i : Slot) : BindingKept s (s.reSplit i) :=
  bindingKept_of_shares (fun j => by rw [reSplit_record]) (reSplit_sharesOnly s i)

theorem bindingKept_zeroShares (i : Slot) : BindingKept s (s.zeroShares i) :=
  bindingKept_of_shares (fun j => by rw [zeroShares_eq]; rfl) (zeroShares_sharesOnly s i)

theorem bindingKept_movePresent (i : Slot) (p : Nat) : BindingKept s (s.movePresent i p) := by
  refine bindingKept_of_shares (fun j => ?_) (movePresent_sharesOnly s i p)
  rw [movePresent_record]
  split
  next heq => subst heq; rfl
  next => rfl

theorem bindingKept_endDescent (i : Slot) : BindingKept s (s.endDescent i) := by
  refine bindingKept_of_shares (fun j => ?_) fun c => ?_
  · rw [endDescent_record]
    split
    next heq => subst heq; rfl
    next => rfl
  · have hchannel : (s.endDescent i).channel c = (s.zeroShares i).channel c := by rw [endDescent_eq]; rfl
    rw [hchannel]
    exact zeroShares_sharesOnly s i c

theorem bindingKept_faultRecord (i : Slot) (x : FaultName) : BindingKept s (s.faultRecord i x) := by
  refine bindingKept_of_shares (fun j => ?_) fun c => ?_
  · rw [faultRecord_record]
    split
    next heq => subst heq; rfl
    next => rfl
  · rw [faultRecord_channel_eq]; exact zeroShares_sharesOnly s i c

theorem bindingKept_engagedAt (i : Slot) : BindingKept s (s.engagedAt i) := by
  have hset : BindingKept s (s.setRecord i { s.record i with state := .active, present := (s.record i).floor, engageTimer := none }) :=
    bindingKept_setRecord i rfl
  exact (hset.trans (bindingKept_reSplit i)).trans (bindingKept_of_eq rfl rfl)

theorem bindingKept_absorbCapacity (i : Slot) : BindingKept s (s.absorbCapacity i) := by
  rcases absorbCapacity_cases s i with ⟨e, -⟩ | ⟨e, -⟩ | ⟨e, -⟩ | ⟨e, -⟩ | ⟨e, -⟩ <;> rw [e]
  · exact .refl s
  · exact bindingKept_reSplit i
  · exact bindingKept_movePresent i _
  · exact bindingKept_endDescent i
  · exact bindingKept_faultRecord i _

theorem bindingKept_absorbAt (c : Chan) : BindingKept s (s.absorbAt c) := by
  cases h : (s.channel c).owner with
  | none => rw [absorbAt_unbound h]; exact .refl s
  | some i =>
    rw [absorbAt_bound h]
    split
    · exact bindingKept_absorbCapacity i
    · exact .refl s

/-! ### A channel reported -/

theorem report_owner (x : Channel) (tm : Timing) (ready fault limit : Bool) (measured : Nat) :
    (x.report tm ready fault limit measured).owner = x.owner := by
  unfold Channel.report
  dsimp only
  split
  · rfl
  · rfl
  · split
    · rw [released_eq]
    · rw [released_eq]; rfl
    · rw [released_eq]; rfl

theorem limitAndTrack_owner (x old : Channel) (tm : Timing) (st : RecordState) (limit : Bool) (measured : Nat) :
    (x.limitAndTrack old tm st limit measured).owner = x.owner := by
  have htrack : (x.track tm old.share measured).owner = x.owner := by
    unfold Channel.track
    dsimp only
    split
    · split <;> rfl
    · rfl
  unfold Channel.limitAndTrack
  split
  · split
    · split <;> rfl
    · split
      · exact htrack
      · rfl
  · rfl

theorem ChannelMove.owner {c : Chan} {y : Channel} {event : Bool} (h : ChannelMove s c y event) : y.owner = (s.channel c).owner := by
  cases h
  case fetched => exact (limitAndTrack_owner _ _ _ _ _ _).trans (report_owner _ _ _ _ _ _)
  case frozen => rfl
  case lost => rfl

theorem bindingKept_reportedAt {c : Chan} {y : Channel} {event : Bool} (h : ChannelMove s c y event) :
    BindingKept s (s.reportedAt c y event) := by
  have hset : BindingKept s (s.setChannel c y) := bindingKept_setChannel c h.owner
  cases event
  · exact hset
  · exact hset.trans (bindingKept_absorbAt c)

/-! ### A publication -/

theorem bindingKept_foldl {α : Type} {F : State → α → State} (hF : ∀ u a, BindingKept u (F u a)) (as : List α) (u : State) :
    BindingKept u (as.foldl F u) := by
  induction as generalizing u with
  | nil => exact .refl u
  | cons a as ih => exact (hF u a).trans (ih (F u a))

theorem bindingKept_requestIf (b : Bool) : BindingKept s (s.requestIf b) :=
  bindingKept_of_eq (by rw [requestIf_eq]; rfl) (by rw [requestIf_eq]; rfl)

theorem bindingKept_captureAs (x : FaultName) (k : Nat) (st : SeqState) : BindingKept s (s.captureAs x k st) :=
  bindingKept_of_eq (by rw [captureAs_eq]) (by rw [captureAs_eq])

theorem bindingKept_lowerFrozen (excess : Nat) (fs : List Feeder) : BindingKept s (s.lowerFrozen excess fs) := by
  refine ⟨fun j => by rw [lowerFrozen_record], fun c => ?_⟩
  rw [lowerFrozen_channel]

theorem bindingKept_cutAt (i : Slot) : BindingKept s ((s.cutToGrant i).releaseCut i) := by
  have hcut : BindingKept s (s.cutToGrant i) := by
    unfold State.cutToGrant
    dsimp only
    split
    · exact ((bindingKept_lowerFrozen _ _).trans (bindingKept_movePresent i _)).trans (bindingKept_requestIf _)
    · exact .refl s
  refine hcut.trans ?_
  unfold State.releaseCut
  dsimp only
  split
  · exact (bindingKept_endDescent i).trans (bindingKept_requestIf true)
  · exact .refl _

theorem bindingKept_shedRecord (i : Slot) : BindingKept s (s.shedRecord i) := by
  have hset : BindingKept (s.zeroShares i) ((s.zeroShares i).setRecord i { (s.zeroShares i).record i with
      state := .shed, present := 0, engageTimer := none, aim := ((s.zeroShares i).record i).target }) := bindingKept_setRecord i rfl
  exact ((bindingKept_zeroShares i).trans hset).trans (bindingKept_of_eq rfl rfl)

theorem bindingKept_applyDrops (dropped : List Slot) : BindingKept s (s.applyDrops dropped) := by
  have hshed := bindingKept_foldl (F := State.shedRecord) (fun u i => bindingKept_shedRecord (s := u) i) (dropped.filter s.dropEffective) s
  unfold State.applyDrops
  dsimp only
  split
  · exact hshed.trans (bindingKept_captureAs _ _ _)
  · exact hshed

theorem bindingKept_granted (n : Snapshot) : BindingKept s (s.granted n) :=
  ⟨fun i => by rw [granted_record], fun c => by rw [granted_channel]⟩

theorem bindingKept_engageRecord (i : Slot) : BindingKept s (s.engageRecord i) := by
  unfold State.engageRecord
  dsimp only
  split
  · exact bindingKept_setRecord i rfl
  · exact .refl s

theorem bindingKept_publish (n : Snapshot) : BindingKept s (s.publish n) := by
  have hadmitted : BindingKept s (s.admitted n) :=
    ((bindingKept_granted n).trans (bindingKept_applyDrops _)).trans
      (bindingKept_foldl (fun u i => bindingKept_engageRecord (s := u) i) _ _)
  have hcuts : BindingKept (s.admitted n) (s.admitted n).applyCuts :=
    bindingKept_foldl (fun u i => bindingKept_cutAt (s := u) i) slots _
  rw [publish_eq]
  refine (hadmitted.trans hcuts).trans ⟨fun j => by rw [writeBreach_record], fun c => by rw [writeBreach_channel]⟩

/-! ## Feeders (R11, R12) -/

theorem bindingKept_aimed (i : Slot) {r : DrawRecord} (h : Rewritten s i r) : BindingKept s (s.setRecord i r) := by
  refine bindingKept_setRecord i ?_
  cases h
  case aimed => rw [lowerAim_eq]
  case retargeted => rfl
  case amended => rfl
  case left => rfl

/-- Every move but an OPEN DRAW, an entry into FREE and a reset keeps feeder lists and owners. -/
theorem Move.binding (h : Move Q s t) : (∃ p, Q (.openDraw p) ∧ s.openReasons p = 0 ∧ t = s.openedAt p) ∨ (∃ i, t = s.enterFree i) ∨ Fresh t
    ∨ BindingKept s t := by
  have hkept : BindingKept s t → (∃ p, Q (.openDraw p) ∧ s.openReasons p = 0 ∧ t = s.openedAt p) ∨ (∃ i, t = s.enterFree i) ∨ Fresh t
      ∨ BindingKept s t := fun h => .inr (.inr (.inr h))
  cases h
  case outer h =>
    have htable := congrArg State.table h
    have hchannels := congrArg State.channels h
    exact hkept (bindingKept_of_eq htable hchannels)
  case port => exact hkept (bindingKept_of_eq rfl rfl)
  case overtaken => exact hkept (bindingKept_of_eq rfl rfl)
  case ramp => exact hkept (bindingKept_of_eq rfl rfl)
  case engine => exact hkept (bindingKept_of_eq rfl rfl)
  case marks hrest =>
    have htable := congrArg State.table hrest
    exact hkept (bindingKept_of_eq htable hrest.channels)
  case cleared => exact hkept (bindingKept_of_eq rfl rfl)
  case served hrest _ =>
    have htable := congrArg State.table hrest
    have hchannels := congrArg State.channels hrest
    exact hkept (bindingKept_of_eq htable hchannels)
  case sensed => exact hkept (bindingKept_of_eq rfl rfl)
  case rewritten i r h => exact hkept (bindingKept_aimed i h)
  case moved i p _ _ _ => exact hkept (bindingKept_movePresent i p)
  case descended i _ => exact hkept (bindingKept_endDescent i)
  case faulted i x _ => exact hkept (bindingKept_faultRecord i x)
  case engaged i _ _ => exact hkept (bindingKept_engagedAt i)
  case opened p hq hreasons _ => exact .inl ⟨p, hq, hreasons, rfl⟩
  case freed i => exact .inr (.inl ⟨i, rfl⟩)
  case settled c _ _ _ => exact hkept (bindingKept_setChannel c rfl)
  case rearmed c _ => exact hkept (bindingKept_setChannel c rfl)
  case reported c y event h => exact hkept (bindingKept_reportedAt h)
  case timed x _ => exact hkept ⟨fun _ => rfl, fun c => by
    have hc : (s.timed x).channel c = (s.channel c).capMismatch x.trackCount := channel_mapChannels (s.setTiming x) _ c
    rw [hc]; rfl⟩
  case sequencer h =>
    have hchannels := congrArg State.channels h.rest
    refine hkept ⟨fun i => ?_, fun c => ?_⟩
    · exact h.keeps (P := fun r => r.feeders = (s.record i).feeders) (fun _ _ => id) i rfl
    · rw [State.channel, State.channel, ← hchannels]
  case published n _ => exact hkept (bindingKept_publish n)
  case restarted => exact .inr (.inr (.inl ⟨rfl, rfl, rfl, rfl, rfl⟩))

theorem openedAt_channel_mem {p : OpenParams} {c : Chan} (h : ∃ f ∈ p.feeders, f.channel = c) :
    (s.openedAt p).channel c = (s.channel c).bound p.slot :=
  updateFeeders_mem _ p.feeders (Channel.bound p.slot) (fun _ => rfl) c h

theorem openedAt_channel_other {p : OpenParams} {c : Chan} (h : ∀ f ∈ p.feeders, f.channel ≠ c) :
    (s.openedAt p).channel c = s.channel c :=
  updateFeeders_other _ p.feeders (Channel.bound p.slot) c h

/-- R11: an OPEN DRAW binds the channels of its list, none of which was bound. -/
theorem feederLaw_openedAt {p : OpenParams} (hs : FeederLaw s) (hfree : FreeLaw s) (hreasons : s.openReasons p = 0) :
    FeederLaw (s.openedAt p) := by
  obtain ⟨hslot, -, hunbound, -⟩ := (openReasons_eq_zero _ p).mp hreasons
  have hempty : ∀ c, (s.channel c).owner ≠ some p.slot := fun c h => by
    obtain ⟨f, hf, -⟩ := (hs p.slot c).mpr h
    rw [hfree p.slot hslot] at hf
    exact absurd hf List.not_mem_nil
  intro j c
  by_cases hc : ∃ f ∈ p.feeders, f.channel = c
  · have hnone : (s.channel c).owner = none := by
      obtain ⟨f, hf, rfl⟩ := hc
      exact (hunbound f hf).2
    rw [openedAt_channel_mem hc, openedAt_record]
    show _ ↔ some p.slot = some j
    by_cases hj : p.slot = j
    · rw [if_pos hj]; exact ⟨fun _ => by rw [hj], fun _ => hc⟩
    · rw [if_neg hj, hs j c, hnone]
      exact ⟨fun h => (by cases h), fun h => absurd (Option.some.inj h) hj⟩
  · rw [openedAt_channel_other fun f hf h => hc ⟨f, hf, h⟩, openedAt_record]
    by_cases hj : p.slot = j
    · subst hj
      rw [if_pos rfl]
      exact ⟨fun h => absurd h hc, fun h => absurd h (hempty c)⟩
    · rw [if_neg hj]; exact hs j c

/-- R12: a record that enters FREE leaves its channels to no slot. -/
theorem feederLaw_enterFree (hs : FeederLaw s) (i : Slot) : FeederLaw (s.enterFree i) := by
  intro j c
  by_cases hc : ∃ f ∈ (s.record i).feeders, f.channel = c
  · have hi : (s.channel c).owner = some i := (hs i c).mp hc
    rw [enterFree_mem s i c hc, enterFree_record]
    show _ ↔ none = some j
    by_cases hj : i = j
    · rw [if_pos hj]; exact ⟨fun ⟨f, hf, _⟩ => absurd hf List.not_mem_nil, fun h => by cases h⟩
    · rw [if_neg hj, hs j c, hi]
      exact ⟨fun h => absurd (Option.some.inj h) hj, fun h => by cases h⟩
  · rw [enterFree_other s i c fun f hf h => hc ⟨f, hf, h⟩, enterFree_record]
    by_cases hj : i = j
    · subst hj
      rw [if_pos rfl]
      exact ⟨fun ⟨f, hf, _⟩ => absurd hf List.not_mem_nil, fun h => absurd ((hs i c).mpr h) hc⟩
    · rw [if_neg hj]; exact hs j c

theorem feederLaw_move (hs : FeederLaw s) (hfree : FreeLaw s) (h : Move Q s t) : FeederLaw t := by
  rcases h.binding with ⟨p, -, hreasons, rfl⟩ | ⟨i, rfl⟩ | h | h
  · exact feederLaw_openedAt hs hfree hreasons
  · exact feederLaw_enterFree hs i
  · intro i c
    rw [h.record, h.channel]
    exact ⟨fun ⟨f, hf, _⟩ => absurd hf List.not_mem_nil, fun h => by cases h⟩
  · intro i c
    rw [h.feeders, h.owner]
    exact hs i c

/-- Settles O51: every move keeps the law of tags, and the laws of feeders and of FREE records together. -/
theorem tagAndFeederLawsAreKept : Obligations.TagAndFeederLawsAreKept := by
  intro s t h
  have hmoves := moves_step_any h
  refine ⟨hmoves.keeps fun _ _ => tagLaw_move, fun hs hfree => ?_⟩
  have hboth := hmoves.keeps (P := fun u => FeederLaw u ∧ FreeLaw u)
    (fun _ _ ⟨h1, h2⟩ hmove => ⟨feederLaw_move h1 h2 hmove, freeLaw_move h2 hmove⟩) ⟨hs, hfree⟩
  exact hboth.1

end

end Sys2Proof.Machine

/-!
The waiting command, and what stands only while a pass is in flight (R44, R47, R54, R151, R152).
-/

namespace Sys2Proof.Machine

section
variable {Q : Cmd → Prop} {s t u : State}

/-! ## What a move does to the port, the Ramp Unit and the Engine -/

/-- The port, the Ramp Unit and the Engine are left as they were. -/
abbrev Quiet (s t : State) : Prop := t.port = s.port ∧ t.ramp = s.ramp ∧ t.engine = s.engine

theorem quiet_of_restKept (h : RestKept s t) (hengine : t.engine = s.engine) : Quiet s t := ⟨h.port, h.ramp, hengine⟩

theorem quiet_absorbAt (s : State) (c : Chan) : Quiet s (s.absorbAt c) := by
  refine quiet_of_restKept ?_ (absorbAt_engine s c)
  cases h : (s.channel c).owner with
  | none => rw [absorbAt_unbound h]
  | some i =>
    rw [absorbAt_bound h]
    split
    · rw [absorbCapacity_eq]
    · rfl

theorem quiet_reportedAt (s : State) (c : Chan) (y : Channel) (event : Bool) : Quiet s (s.reportedAt c y event) := by
  cases event
  · exact ⟨rfl, rfl, rfl⟩
  · exact quiet_absorbAt (s.setChannel c y) c

theorem quiet_engagedAt (s : State) (i : Slot) : Quiet s (s.engagedAt i) := by
  obtain ⟨u, rfl, h⟩ := engagedAt_eq (s := s) i
  rw [h]
  exact ⟨rfl, rfl, rfl⟩

/-- What a move may do to the port, the Ramp Unit and the Engine. -/
inductive Flight (Q : Cmd → Prop) (s : State) : State → Prop where
  | quiet {t : State} (h : Quiet s t) : Flight Q s t
  | port (p : Port) (h : ∃ c, Q c) : Flight Q s (s.setPort p)
  | overtaken : Flight Q s (s.setPort s.port.overtaken)
  | ramp (x : Ramp) (h : x.deferred = s.ramp.deferred ∨ s.engine.pass.inFlight = true) : Flight Q s (s.setRamp x)
  | engine (e : Engine) (hflies : (s.engine.pass.inFlight = true → e.pass.inFlight = true) ∨ ∃ c, Q c)
      (hrerun : (s.engine.rerun = true → s.engine.pass.inFlight = true) → e.rerun = true → e.pass.inFlight = true) :
      Flight Q s (s.setEngine e)
  | published (n : Snapshot) : Flight Q s (s.publish n)
  | restarted {t : State} (hport : t.port = Port.initial) (hengine : t.engine = Engine.initial) (hdeferred : t.ramp.deferred = 0) : Flight Q s t

theorem Move.flight (h : Move Q s t) : Flight Q s t := by
  cases h
  case outer h =>
    have hport := congrArg State.port h
    have hramp := congrArg State.ramp h
    have hengine := congrArg State.engine h
    exact .quiet ⟨hport, hramp, hengine⟩
  case port p h => exact .port p h
  case overtaken => exact .overtaken
  case ramp x h => exact .ramp x h
  case engine e _ _ _ hflies hrerun => exact .engine e hflies hrerun
  case marks hrest =>
    have hport := congrArg State.port hrest
    have hramp := congrArg State.ramp hrest
    have hengine := congrArg State.engine hrest
    exact .quiet ⟨hport, hramp, hengine⟩
  case cleared => exact .quiet ⟨rfl, rfl, rfl⟩
  case served hrest _ =>
    have hport := congrArg State.port hrest
    have hramp := congrArg State.ramp hrest
    have hengine := congrArg State.engine hrest
    exact .quiet ⟨hport, hramp, hengine⟩
  case sensed => exact .quiet ⟨rfl, rfl, rfl⟩
  case rewritten => exact .quiet ⟨rfl, rfl, rfl⟩
  case moved i p _ _ _ => exact .quiet (quiet_of_restKept (restKept_movePresent s i p) (movePresent_engine s i p))
  case descended i _ => exact .quiet (quiet_of_restKept (restKept_endDescent s i) (endDescent_engine s i))
  case faulted i x _ => exact .quiet (by rw [faultRecord_eq]; exact ⟨rfl, rfl, rfl⟩)
  case engaged i _ _ => exact .quiet (quiet_engagedAt s i)
  case opened p _ _ _ => exact .quiet (by rw [State.openedAt, updateFeeders_eq]; exact ⟨rfl, rfl, rfl⟩)
  case freed i => exact .quiet (by rw [enterFree_eq]; exact ⟨rfl, rfl, rfl⟩)
  case settled => exact .quiet ⟨rfl, rfl, rfl⟩
  case rearmed => exact .quiet ⟨rfl, rfl, rfl⟩
  case reported c y event _ => exact .quiet (quiet_reportedAt s c y event)
  case timed => exact .quiet ⟨rfl, rfl, rfl⟩
  case sequencer h =>
    have hport := congrArg State.port h.rest
    have hramp := congrArg State.ramp h.rest
    have hengine := congrArg State.engine h.rest
    exact .quiet ⟨hport, hramp, hengine⟩
  case published n _ => exact .published n
  case restarted => exact .restarted rfl rfl rfl

theorem publish_flies (s : State) (n : Snapshot) : (s.publish n).engine.pass.inFlight = true := by rw [publish_pass]; rfl

/-- R44, R47: every move keeps the rerun flag to a pass in flight. -/
theorem rerunLaw_move (hs : s.engine.rerun = true → s.engine.pass.inFlight = true) (h : Move Q s t) :
    t.engine.rerun = true → t.engine.pass.inFlight = true := by
  have hflight := h.flight
  clear h
  cases hflight
  case quiet h => rw [h.2.2]; exact hs
  case port => exact hs
  case overtaken => exact hs
  case ramp => exact hs
  case engine e _ hrerun => exact hrerun hs
  case published n => exact fun _ => publish_flies s n
  case restarted _ hengine _ => rw [hengine]; exact Bool.noConfusion

/-! ## Rows that keep a pass in flight (R54, R151, R152) -/

/-- The laws of the waiting command and of the deferred expiries. -/
abbrev Landed (s : State) : Prop := WaitingLaw s ∧ (s.ramp.deferred ≠ 0 → s.engine.pass.inFlight = true)

/-- The law of the waiting command is kept, no expiry is deferred but while a pass is in flight, and a pass in flight stays so. -/
structure FlightKept (s t : State) : Prop where
  waits : WaitingLaw s → WaitingLaw t
  defers : t.ramp.deferred ≠ 0 → s.ramp.deferred ≠ 0 ∨ t.engine.pass.inFlight = true
  flies : s.engine.pass.inFlight = true → t.engine.pass.inFlight = true

theorem FlightKept.trans (h : FlightKept s t) (k : FlightKept t u) : FlightKept s u :=
  ⟨k.waits ∘ h.waits, fun hd => (k.defers hd).elim (fun e => (h.defers e).imp_right k.flies) .inr, k.flies ∘ h.flies⟩

theorem FlightKept.landed (h : FlightKept s t) (hs : Landed s) : Landed t :=
  ⟨h.waits hs.1, fun hd => (h.defers hd).elim (h.flies ∘ hs.2) id⟩

theorem FlightKept.refl (s : State) : FlightKept s s := ⟨id, .inl, id⟩

/-- A port at which no command waits. -/
abbrev Port.restful (p : Port) : Prop := p.waiting = none ∧ p.phase ≠ .execution

theorem waitingLaw_restful (h : s.port.restful) : WaitingLaw s := by
  obtain ⟨hwait, hphase⟩ := h
  rw [WaitingLaw, hwait]
  exact ⟨⟨Bool.noConfusion, fun h => absurd h hphase⟩, Bool.noConfusion, fun c hc => by cases hc⟩

/-- Where the port is not in EXECUTION no command waits. -/
theorem waiting_eq_none (hs : WaitingLaw s) (h : s.port.phase ≠ .execution) : s.port.waiting = none :=
  Option.not_isSome_iff_eq_none.mp fun hw => h (hs.1.mp hw)

/-- The waiting command and the phase stay, and so does a pass in flight. -/
theorem flightKept_same (hwaiting : t.port.waiting = s.port.waiting) (hphase : t.port.phase = s.port.phase)
    (hdefers : t.ramp.deferred ≠ 0 → s.ramp.deferred ≠ 0 ∨ t.engine.pass.inFlight = true)
    (hflies : s.engine.pass.inFlight = true → t.engine.pass.inFlight = true) : FlightKept s t := by
  refine ⟨fun ⟨hiff, hfly, hrange⟩ => ?_, hdefers, hflies⟩
  rw [WaitingLaw, hwaiting, hphase]
  exact ⟨hiff, hflies ∘ hfly, hrange⟩

theorem flightKept_restful (hport : t.port.restful) (hdefers : t.ramp.deferred ≠ 0 → s.ramp.deferred ≠ 0 ∨ t.engine.pass.inFlight = true)
    (hflies : s.engine.pass.inFlight = true → t.engine.pass.inFlight = true) : FlightKept s t :=
  ⟨fun _ => waitingLaw_restful hport, hdefers, hflies⟩

theorem flightKept_quiet (h : Quiet s t) : FlightKept s t := by
  obtain ⟨hport, hramp, hengine⟩ := h
  exact flightKept_same (by rw [hport]) (by rw [hport]) (by rw [hramp]; exact .inl) (by rw [hengine]; exact id)

theorem flightKept_setPort_same (p : Port) (hwaiting : p.waiting = s.port.waiting) (hphase : p.phase = s.port.phase) :
    FlightKept s (s.setPort p) := flightKept_same hwaiting hphase .inl id

theorem flightKept_setPort (p : Port) (h : p.restful) : FlightKept s (s.setPort p) := flightKept_restful h .inl id

theorem flightKept_setRamp (x : Ramp) (h : x.deferred = s.ramp.deferred ∨ s.engine.pass.inFlight = true) : FlightKept s (s.setRamp x) :=
  flightKept_same rfl rfl (fun hd => h.imp_left fun e => by rw [← e]; exact hd) id

theorem flightKept_setEngine (e : Engine) (h : s.engine.pass.inFlight = true → e.pass.inFlight = true) : FlightKept s (s.setEngine e) :=
  flightKept_same rfl rfl .inl h

theorem flightKept_publish (s : State) (n : Snapshot) : FlightKept s (s.publish n) := by
  have hrest := restKept_publish s n
  exact flightKept_same (by rw [hrest.port]) (by rw [hrest.port]) (fun _ => .inr (publish_flies s n)) fun _ => publish_flies s n

theorem flightKept_overtaken (s : State) : FlightKept s (s.setPort s.port.overtaken) := by
  by_cases h : s.port.waiting = none
  · rw [overtaken_none h]; exact .refl s
  · rw [overtaken_some h]; exact flightKept_setPort _ ⟨rfl, Phase.noConfusion⟩

/-- A move in which no command is taken keeps both laws. -/
theorem landed_move (hs : Landed s) (h : Move (fun _ => False) s t) : Landed t := by
  have hflight := h.flight
  clear h
  cases hflight
  case quiet h => exact (flightKept_quiet h).landed hs
  case port _ h => exact h.elim fun _ => False.elim
  case overtaken => exact (flightKept_overtaken s).landed hs
  case ramp x h => exact (flightKept_setRamp x h).landed hs
  case engine e hflies _ => exact (flightKept_setEngine e (hflies.resolve_right fun ⟨_, hc⟩ => hc)).landed hs
  case published n => exact (flightKept_publish s n).landed hs
  case restarted hport _ hdeferred =>
    exact ⟨waitingLaw_restful (by rw [hport]; exact ⟨rfl, Phase.noConfusion⟩), fun hd => absurd hdeferred hd⟩

/-! ## The transactions of the port -/

/-- A command taken while a pass is in flight. -/
theorem perform_flies (c : Cmd) (h : s.engine.pass.inFlight = true) : (perform c s).1.engine.pass.inFlight = true := by
  have hne : s.engine.pass ≠ .idle := fun e => by rw [e] at h; cases h
  rw [(perform_flying c s).2.2 hne]
  exact h

theorem takeCmd_ramp (c : Cmd) (s : State) : (s.takeCmd c).ramp = s.ramp := (perform_flying c s).1

theorem flightKept_takeCmd (c : Cmd) (s : State) : FlightKept s (s.takeCmd c) :=
  flightKept_restful ⟨rfl, Phase.noConfusion⟩ (by rw [takeCmd_ramp]; exact .inl) fun h => perform_flies c h

theorem requestPass_flies (s : State) : s.requestPass.engine.pass.inFlight = true := by
  by_cases h : s.engine.pass = .idle
  · rw [requestPass_idle h]; rfl
  · rw [requestPass_flying h]; exact flies_of_ne_idle h

theorem flightKept_takeBeforeStart (c : Cmd) (s : State) : FlightKept s (s.takeBeforeStart c) := by
  refine flightKept_restful ?_ (fun _ => .inr (requestPass_flies _)) fun _ => requestPass_flies _
  rw [State.takeBeforeStart, requestPass_port]
  exact ⟨rfl, Phase.noConfusion⟩

/-- R152: a command in range begins to wait only while a pass is in flight. -/
theorem flightKept_takeOrWait {c : Cmd} (h : c.inRange = true) (s : State) : FlightKept s (s.takeOrWait c) := by
  unfold State.takeOrWait
  split
  next hwaits =>
    obtain ⟨hwaits, hfly⟩ := Bool.and_eq_true_iff.mp hwaits
    have hbegun : ∀ e : Engine, e.pass.inFlight = true →
        FlightKept s ((s.setPort { s.port with phase := .execution, waiting := some c }).setEngine e) := fun e he =>
      ⟨fun _ => ⟨⟨fun _ => rfl, fun _ => rfl⟩, fun _ => he, fun d hd => by cases hd; exact ⟨hwaits, h⟩⟩, .inl, fun _ => he⟩
    dsimp only
    split
    · exact hbegun _ rfl
    · exact hbegun _ hfly
  next => exact flightKept_takeCmd c s

theorem flightKept_startCmd {c : Cmd} (h : c.inRange = true) (first : Bool) (s : State) : FlightKept s (s.startCmd c first) := by
  unfold State.startCmd
  split
  · exact flightKept_takeBeforeStart c s
  · exact flightKept_takeOrWait h s

theorem flightKept_complete (bytes : List Byte) (s : State) : FlightKept s (s.complete bytes) :=
  flightKept_setPort _ ⟨rfl, Phase.noConfusion⟩

theorem flightKept_beginExecution (code : CmdCode) (ps : List Byte) (first : Bool) (s : State) :
    FlightKept s (s.beginExecution code ps first) := by
  cases h : parseCmd code ps with
  | none => rw [beginExecution_none h]; exact flightKept_complete _ s
  | some c => rw [beginExecution_some h]; exact flightKept_startCmd (inRange_of_parse h).2 first s

theorem flightKept_putCode (b : Byte) (s : State) : FlightKept s (s.putCode b) := by
  have hslip : FlightKept s (s.setPort { s.port with slip := false }) := flightKept_setPort_same _ rfl rfl
  unfold State.putCode
  dsimp only
  split
  · exact hslip.trans (flightKept_complete _ _)
  next code _ =>
    have hcode : FlightKept s ((s.setPort { s.port with slip := false }).setPort
        { s.port with slip := false, code := some code, params := [], expected := code.paramCount }) := flightKept_setPort_same _ rfl rfl
    split
    · exact hcode.trans (flightKept_beginExecution _ _ _ _)
    · exact hcode

theorem flightKept_putParam (code : CmdCode) (b : Byte) (first : Bool) (s : State) : FlightKept s (s.putParam code b first) := by
  have hparams : FlightKept s (s.setPort { s.port with params := s.port.params ++ [b] }) := flightKept_setPort_same _ rfl rfl
  unfold State.putParam
  dsimp only
  split
  · split
    · exact flightKept_setPort_same _ rfl rfl
    · exact flightKept_setPort _ ⟨rfl, Phase.noConfusion⟩
  · split
    · exact hparams.trans (flightKept_beginExecution _ _ _ _)
    · exact hparams

theorem flightKept_putByte (b : Byte) (first : Bool) (s : State) : FlightKept s (s.putByte b first) := by
  by_cases hp : s.port.phase = .command
  · cases hc : s.port.code with
    | none => rw [putByte_asCode hp hc]; exact flightKept_putCode b s
    | some code => rw [putByte_asParam hp hc]; exact flightKept_putParam code b first s
  · rw [putByte_slip hp]; exact flightKept_setPort_same _ rfl rfl

/-- A TAKE in turn finds the port in RESULT, where no command waits. -/
theorem flightKept_takeByte (early : Bool) (s : State) : FlightKept s (s.takeByte early) := by
  unfold State.takeByte
  split
  next hturn =>
    obtain ⟨-, hresult⟩ := Bool.and_eq_true_iff.mp hturn
    have hphase : s.port.phase ≠ .execution := by rw [of_decide_eq_true hresult]; exact Phase.noConfusion
    split
    · exact ⟨fun hs => waitingLaw_restful ⟨(waiting_eq_none hs hphase :), Phase.noConfusion⟩, .inl, id⟩
    · exact flightKept_setPort_same _ rfl rfl
  next => exact flightKept_setPort_same _ rfl rfl

theorem flightKept_actOn (kind : Selector) (data : Byte) (early : Bool) (s : State) : FlightKept s (s.actOn kind data early) := by
  cases kind
  case status => exact .refl s
  case put => exact flightKept_putByte data early s
  case take => exact flightKept_takeByte early s
  case abort => exact flightKept_setPort _ ⟨rfl, Phase.noConfusion⟩
  case unknown => exact flightKept_setPort_same _ rfl rfl

theorem flightKept_transact (out : Byte) {f : State → State} (h : FlightKept s (f s)) : FlightKept s (s.transact out f) := by
  unfold State.transact
  split
  · split
    · exact flightKept_quiet ⟨rfl, rfl, rfl⟩
    · exact h.trans (flightKept_quiet ⟨rfl, rfl, rfl⟩)
  · exact .refl s

theorem flightKept_transaction (selector data : Byte) (early : Bool) (s : State) : FlightKept s (s.transaction selector data early) :=
  flightKept_transact _ (flightKept_actOn _ data early s)

theorem flightKept_putAll (bs : List Byte) (s : State) : FlightKept s (s.putAll bs) := by
  induction bs generalizing s with
  | nil => exact .refl s
  | cons b bs ih => exact (flightKept_transact 0x00 (flightKept_putByte b false s)).trans (ih _)

/-! ## The publication window (R47) -/

theorem flightKept_windowExpiry (s : State) : FlightKept s s.windowExpiry := by
  by_cases h : ∃ due, s.engine.pass = .window due
  · obtain ⟨due, h⟩ := h
    obtain ⟨hpass, hport, -⟩ := windowExpiry_keeps h
    have hfly : s.windowExpiry.engine.pass.inFlight = true := by rw [hpass]; rfl
    exact flightKept_same (by rw [hport]) (by rw [hport]) (fun _ => .inr hfly) fun _ => hfly
  · rw [windowExpiry_none (.inl fun due hdue => h ⟨due, hdue⟩)]
    exact .refl s

theorem flightKept_windowExpiries (n : Nat) (s : State) : FlightKept s (State.windowExpiries n s) := by
  induction n generalizing s with
  | zero => exact .refl s
  | succ n ih => exact (flightKept_windowExpiry s).trans (ih _)

theorem flightKept_windowCommand (s : State) : FlightKept s s.windowCommand := by
  unfold State.windowCommand
  split
  next c _ _ =>
    have hopen : FlightKept s (s.setEngine { s.engine with pass := .window false }) := flightKept_same rfl rfl .inl fun _ => rfl
    exact hopen.trans (flightKept_takeCmd c _)
  next => exact .refl s

theorem flightKept_publishIfRunning (s : State) : FlightKept s s.publishIfRunning := by
  unfold State.publishIfRunning
  split
  · exact flightKept_publish s _
  · exact .refl s

/-- R47: at the end of a window whose expiries have been taken. -/
theorem landed_closeWindow (hs : WaitingLaw s) (h : s.drained) : Landed s.closeWindow := by
  obtain ⟨hdeferred, due, hpass, -⟩ := h
  cases hr : s.engine.rerun with
  | true =>
    rw [closeWindow_rerun hpass hr]
    exact ⟨⟨hs.1, fun _ => rfl, hs.2.2⟩, fun _ => rfl⟩
  | false =>
    cases hw : s.port.waiting with
    | none =>
      rw [closeWindow_idle hpass hr hw]
      exact ⟨waitingLaw_restful ⟨hw, fun hp => by have hsome := hs.1.mpr hp; rw [hw] at hsome; cases hsome⟩, fun hd => absurd hdeferred hd⟩
    | some c =>
      rw [closeWindow_take hpass hr hw]
      exact ⟨waitingLaw_restful ⟨rfl, Phase.noConfusion⟩, fun hd => absurd (by rw [takeCmd_ramp]; exact hdeferred) hd⟩

theorem landed_runWindow (hs : Landed s) (k : Nat) : Landed (s.runWindow k) := by
  by_cases h : ∃ due, s.engine.pass = .window due
  · obtain ⟨due, h⟩ := h
    obtain ⟨hdrained, -, hparts⟩ := windowParts_drained h k
    have hkept : FlightKept s (s.windowParts k) :=
      ((flightKept_windowExpiries _ s).trans (flightKept_windowCommand _)).trans (flightKept_windowExpiries _ _)
    rw [hparts]
    exact landed_closeWindow (hkept.waits hs.1) hdrained
  · rw [runWindow_other fun due hdue => h ⟨due, hdue⟩]
    exact hs

theorem landed_publicationRow (hs : Landed s) (part : WindowPart) : Landed (s.publicationRow part) := by
  unfold State.publicationRow
  split
  · cases part
    case whole k => exact landed_runWindow ((flightKept_publishIfRunning s).landed hs) k
    case opened => exact (flightKept_publishIfRunning s).landed hs
    case takeCommand => exact (flightKept_windowCommand s).landed hs
    case takeExpiry => exact (flightKept_windowExpiry s).landed hs
  · exact hs

/-! ## The rows -/

theorem landed_next (hs : Landed s) (h : (.next s : Host.Outcome State Fault Refusal) = .next t) : Landed t := by cases h; exact hs

theorem landed_restarted (s : State) (banks : Vector FaultBank 4) (r : ResetState) (step : Timer) (begun : Underway) :
    Landed (s.restarted banks r step begun) := ⟨waitingLaw_restful ⟨rfl, Phase.noConfusion⟩, fun hd => absurd rfl hd⟩

/-- Every row keeps both laws: one that is no transaction, no publication and no reset as a series of moves that take no command. -/
theorem landed_exec {c : Instr} (hs : Landed s) (h : exec c s = .next t) : Landed t := by
  cases hsent : sentBytes c with
  | some sent =>
    obtain ⟨code, ps⟩ := sent
    exact landed_next ((flightKept_putAll _ s).landed hs) ((exec_sent hsent s).symm.trans h)
  | none =>
    have htransaction : ∀ selector data early, Landed (s.transaction selector data early) := fun selector data early =>
      (flightKept_transaction selector data early s).landed hs
    cases c <;> simp only [sentBytes, reduceCtorEq] at hsent
    case powerOnReset => exact landed_next (landed_restarted s _ _ _ _) h
    case pinReset =>
      refine landed_next ?_ h
      split
      · exact hs
      · exact landed_restarted s _ _ _ _
    case endOfReset =>
      refine landed_next ?_ h
      split
      · exact hs
      · exact landed_restarted s _ _ _ _
    case put => exact landed_next (htransaction _ _ _) h
    case take => exact landed_next (htransaction _ _ _) h
    case abort => exact landed_next (htransaction _ _ _) h
    case unknownSelector => exact landed_next (htransaction _ _ _) h
    case transactionCutShort =>
      have hslip : FlightKept s s.slipped := flightKept_setPort_same _ rfl rfl
      exact landed_next ((flightKept_transact _ hslip).landed hs) h
    case publication part => exact landed_next (landed_publicationRow hs part) ((publicationRow_exec s part).symm.trans h)
    all_goals exact (moves_exec_outside (by constructor) h).keeps (P := Landed) (fun _ _ hu hmove => landed_move hu hmove) hs

end

/-- Settles O58: the rerun flag by the moves of a step, the waiting command and the deferred expiries by its row. -/
theorem waitingLawIsKept : Obligations.WaitingLawIsKept := by
  intro s t hwaiting ⟨hdeferred, hrerun⟩ h
  have hflag : t.engine.rerun = true → t.engine.pass.inFlight = true :=
    (moves_step_any h).keeps (P := fun u => u.engine.rerun = true → u.engine.pass.inFlight = true)
      (fun _ _ hu hmove => rerunLaw_move hu hmove) hrerun
  have hlanded : Landed t := by
    have hs : Landed s := ⟨hwaiting, hdeferred⟩
    cases hp : s.pending with
    | nil => rw [step, hp] at h; exact landed_next hs h
    | cons c rest => rw [step, hp] at h; exact landed_exec (s := s.setPending rest) hs h
  exact ⟨hlanded.1, hlanded.2, hflag⟩

end Sys2Proof.Machine

/-!
The law of shares (R12, R62, R65, R74), and the operations at one record that keep it: a split, a move of the present, shares released,
a cut to a grant.
-/

namespace Sys2Proof.Machine

section
variable {s t : State} {i : Slot}

/-! ## The law by parts -/

/-- R10, R12: feeders named once, each with a weight. -/
abbrev Listed (fs : List Feeder) : Prop := (fs.map fun f => f.channel).Nodup ∧ ∀ f ∈ fs, 1 ≤ f.weight

/-- What the law says of the shares and the present of one record. -/
abbrev SumsAt (s : State) (i : Slot) : Prop :=
  s.feederSum (s.record i).feeders (fun x => x.share) = (s.record i).present ∧ s.frozenSum i ≤ (s.record i).present
    ∧ (s.record i).present ≤ s.carrying i

/-- What the law says of one channel. -/
abbrev Channel.shareLawful (x : Channel) : Prop :=
  (x.owner = none → x.share = 0) ∧ (x.condition = .stale → x.share = x.frozen) ∧ (x.condition ≠ .stale → x.condition ≠ .online → x.share = 0)

theorem shareLaw_iff : ShareLaw s ↔ (∀ i, Listed (s.record i).feeders ∧ SumsAt s i) ∧ ∀ c, (s.channel c).shareLawful := by
  refine and_congr_left fun _ => forall_congr' fun i => ?_
  exact ⟨fun ⟨h1, h2, h3⟩ => ⟨⟨h1, h2⟩, h3⟩, fun ⟨⟨h1, h2⟩, h3⟩ => ⟨h1, h2, h3⟩⟩

/-- Two records of a channel with the same share, frozen share and usable capacity. -/
abbrev Channel.alike (x y : Channel) : Prop := y.share = x.share ∧ y.frozenShare = x.frozenShare ∧ y.usable = x.usable

theorem feederSum_alike {fs : List Feeder} {g : Channel → Nat} (h : ∀ f ∈ fs, g (t.channel f.channel) = g (s.channel f.channel)) :
    t.feederSum fs g = s.feederSum fs g := congrArg List.sum (List.map_congr_left h)

theorem sumsAt_alike (hs : SumsAt s i) (hfeeders : (t.record i).feeders = (s.record i).feeders)
    (hpresent : (t.record i).present = (s.record i).present)
    (h : ∀ f ∈ (s.record i).feeders, (s.channel f.channel).alike (t.channel f.channel)) : SumsAt t i := by
  have hshare : t.feederSum (s.record i).feeders (fun x => x.share) = s.feederSum (s.record i).feeders (fun x => x.share) :=
    feederSum_alike (g := fun x => x.share) fun f hf => (h f hf).1
  have hfrozen : t.feederSum (s.record i).feeders Channel.frozenShare = s.feederSum (s.record i).feeders Channel.frozenShare :=
    feederSum_alike fun f hf => (h f hf).2.1
  have husable : t.feederSum (s.record i).feeders Channel.usable = s.feederSum (s.record i).feeders Channel.usable :=
    feederSum_alike fun f hf => (h f hf).2.2
  rw [SumsAt, State.frozenSum, State.carrying, hfeeders, hpresent, hshare, hfrozen, husable]
  exact hs

theorem shareLaw_alike (hs : ShareLaw s) (hfeeders : ∀ i, (t.record i).feeders = (s.record i).feeders)
    (hpresent : ∀ i, (t.record i).present = (s.record i).present)
    (h : ∀ i, ∀ f ∈ (s.record i).feeders, (s.channel f.channel).alike (t.channel f.channel))
    (hlawful : ∀ c, (s.channel c).shareLawful → (t.channel c).shareLawful) : ShareLaw t := by
  obtain ⟨hrecords, hchannels⟩ := shareLaw_iff.mp hs
  refine shareLaw_iff.mpr ⟨fun i => ⟨?_, sumsAt_alike (hrecords i).2 (hfeeders i) (hpresent i) (h i)⟩, fun c => hlawful c (hchannels c)⟩
  rw [hfeeders]
  exact (hrecords i).1

/-- The law reads the feeders and the presents of the records, and the channels. -/
theorem shareLaw_of_eq (hs : ShareLaw s) (hfeeders : ∀ i, (t.record i).feeders = (s.record i).feeders)
    (hpresent : ∀ i, (t.record i).present = (s.record i).present) (hchannels : t.channels = s.channels) : ShareLaw t := by
  have hchannel : ∀ c, t.channel c = s.channel c := fun c => by rw [State.channel, hchannels]; rfl
  exact shareLaw_alike hs hfeeders hpresent (fun _ f _ => by rw [hchannel]; exact ⟨rfl, rfl, rfl⟩) fun c h => by rw [hchannel]; exact h

theorem shareLaw_same (hs : ShareLaw s) (htable : t.table = s.table) (hchannels : t.channels = s.channels) : ShareLaw t :=
  shareLaw_of_eq hs (fun i => by rw [State.record, htable]; rfl) (fun i => by rw [State.record, htable]; rfl) hchannels

/-! ## The law but for one record -/

/-- The law of shares, but for the present and the shares of the record at one slot. -/
structure Loose (s : State) (i : Slot) : Prop where
  feeders : FeederLaw s
  listed : ∀ j, Listed (s.record j).feeders
  sums : ∀ j, j ≠ i → SumsAt s j
  lawful : ∀ c, (s.channel c).owner ≠ some i → (s.channel c).shareLawful

theorem loose_of_law (hf : FeederLaw s) (hs : ShareLaw s) (i : Slot) : Loose s i := by
  obtain ⟨hrecords, hchannels⟩ := shareLaw_iff.mp hs
  exact ⟨hf, fun j => (hrecords j).1, fun j _ => (hrecords j).2, fun c _ => hchannels c⟩

theorem feederLaw_binding (hf : FeederLaw s) (h : BindingKept s t) : FeederLaw t := fun j c => by rw [h.feeders, h.owner]; exact hf j c

/-- The law holds where it holds but for one record, and of that record too. -/
theorem Loose.law (h : Loose s i) (hsums : SumsAt s i) (hlawful : ∀ f ∈ (s.record i).feeders, (s.channel f.channel).shareLawful) : ShareLaw s := by
  refine shareLaw_iff.mpr ⟨fun j => ⟨h.listed j, ?_⟩, fun c => ?_⟩
  · by_cases hj : j = i
    · rw [hj]; exact hsums
    · exact h.sums j hj
  · by_cases hc : (s.channel c).owner = some i
    · obtain ⟨f, hf, rfl⟩ := (h.feeders i c).mpr hc
      exact hlawful f hf
    · exact h.lawful c hc

/-- What changes nothing but one record and its channels leaves the law standing but for that record. -/
theorem Loose.change (h : Loose s i) (hbind : BindingKept s t) (hrecord : ∀ j, j ≠ i → t.record j = s.record j)
    (hother : ∀ c, (∀ f ∈ (s.record i).feeders, f.channel ≠ c) → t.channel c = s.channel c) : Loose t i := by
  have hchannel : ∀ c, (s.channel c).owner ≠ some i → t.channel c = s.channel c := fun c hc =>
    hother c fun f hf hfc => hc ((h.feeders i c).mp ⟨f, hf, hfc⟩)
  refine ⟨feederLaw_binding h.feeders hbind, fun j => by rw [hbind.feeders]; exact h.listed j, fun j hj => ?_, fun c hc => ?_⟩
  · refine sumsAt_alike (h.sums j hj) (hbind.feeders j) (by rw [hrecord j hj]) fun f hf => ?_
    have hown : (s.channel f.channel).owner = some j := (h.feeders j f.channel).mp ⟨f, hf, rfl⟩
    rw [hchannel _ (by rw [hown]; exact fun e => hj (Option.some.inj e))]
    exact ⟨rfl, rfl, rfl⟩
  · rw [hbind.owner] at hc
    rw [hchannel c hc]
    exact h.lawful c hc

/-- A feeder of the record, bound to its slot. -/
theorem Loose.bound (h : Loose s i) {f : Feeder} (hf : f ∈ (s.record i).feeders) : (s.channel f.channel).owner ≠ none := by
  rw [(h.feeders i f.channel).mp ⟨f, hf, rfl⟩]
  exact Option.some_ne_none i

/-! ## A record changed, its shares split or released -/

theorem Loose.setRecord (h : Loose s i) {r : DrawRecord} (hr : r.feeders = (s.record i).feeders) : Loose (s.setRecord i r) i :=
  h.change (bindingKept_setRecord i hr) (fun j hj => by rw [record_setRecord, if_neg (Ne.symm hj)]) fun _ _ => rfl

/-- R62, R74: a present that the feeders can carry, over their frozen shares, is split. -/
theorem Loose.split (h : Loose s i) (hfrozen : s.frozenSum i ≤ (s.record i).present) (hcarried : (s.record i).present ≤ s.carrying i) :
    ShareLaw (s.reSplit i) := by
  obtain ⟨hnodup, hweights⟩ := h.listed i
  have hloose : Loose (s.reSplit i) i :=
    h.change (bindingKept_reSplit i) (fun j _ => by rw [reSplit_record]) fun c hc => reSplit_other s i c hc
  have hrest : ∀ f ∈ (s.record i).feeders, ∃ n, (s.reSplit i).channel f.channel = { s.channel f.channel with share := n } :=
    fun f hf => ⟨_, reSplit_rest hnodup hf⟩
  refine hloose.law ?_ fun f hf => ?_
  · have hsame : ∀ g : Channel → Nat, (∀ x n, g { x with share := n } = g x) →
        (s.reSplit i).feederSum (s.record i).feeders g = s.feederSum (s.record i).feeders g := fun g hg =>
      feederSum_alike fun f hf => by obtain ⟨n, hn⟩ := hrest f hf; rw [hn, hg]
    rw [SumsAt, State.frozenSum, State.carrying, reSplit_record, hsame Channel.frozenShare fun _ _ => rfl, hsame Channel.usable fun _ _ => rfl]
    exact ⟨reSplit_sum hnodup hweights hfrozen hcarried, hfrozen, hcarried⟩
  · rw [reSplit_record] at hf
    have hshare := reSplit_share hnodup hf
    obtain ⟨n, hn⟩ := hrest f hf
    rw [hn] at hshare ⊢
    refine ⟨fun hnone => absurd hnone (h.bound hf), fun hstale => ?_, fun hstale honline => ?_⟩
    · have hcond : (s.channel f.channel).condition = .stale := hstale
      rw [hcond] at hshare
      exact hshare
    · have hns : (s.channel f.channel).condition ≠ .stale := hstale
      have hno : (s.channel f.channel).condition ≠ .online := honline
      refine hshare.trans ?_
      split
      next e => exact absurd e hns
      next e => exact absurd e hno
      next => rfl

/-- R20, R57, R60: a record whose present and shares have become 0. -/
theorem Loose.released (h : Loose s i) (hbind : BindingKept s t) (hrecord : ∀ j, j ≠ i → t.record j = s.record j)
    (hpresent : (t.record i).present = 0) (hchannel : ∀ c, t.channel c = (s.zeroShares i).channel c) : ShareLaw t := by
  have hloose : Loose t i := h.change hbind hrecord fun c hc => by rw [hchannel, zeroShares_other s i c hc]
  have hzero : ∀ f ∈ (s.record i).feeders, t.channel f.channel = (s.channel f.channel).noShare := fun f hf => by
    rw [hchannel]
    exact zeroShares_mem s i f.channel ⟨f, hf, rfl⟩
  have hsum : ∀ g : Channel → Nat, (∀ x : Channel, g x.noShare = 0) → t.feederSum (s.record i).feeders g = 0 := fun g hg =>
    List.sum_eq_zero fun n hn => by
      obtain ⟨f, hf, rfl⟩ := List.mem_map.mp hn
      rw [hzero f hf, hg]
  refine hloose.law ?_ fun f hf => ?_
  · rw [SumsAt, State.frozenSum, hbind.feeders, hpresent, hsum _ fun _ => rfl, hsum Channel.frozenShare fun x => ?_]
    · exact ⟨rfl, Nat.le_refl 0, Nat.zero_le _⟩
    · rw [Channel.frozenShare]
      split <;> rfl
  · rw [hbind.feeders] at hf
    rw [hzero f hf]
    exact ⟨fun _ => rfl, fun _ => rfl, fun _ _ => rfl⟩

theorem Loose.descended (h : Loose s i) : ShareLaw (s.endDescent i) :=
  h.released (bindingKept_endDescent i) (fun j hj => by rw [endDescent_record, if_neg (Ne.symm hj)])
    (by rw [endDescent_record, if_pos rfl]) fun c => endDescent_channel s i c

theorem Loose.faulted (h : Loose s i) (x : FaultName) : ShareLaw (s.faultRecord i x) :=
  h.released (bindingKept_faultRecord i x) (fun j hj => by rw [faultRecord_record, if_neg (Ne.symm hj)])
    (by rw [faultRecord_record, if_pos rfl]) fun c => faultRecord_channel_eq s i x c

theorem Loose.shed (h : Loose s i) : ShareLaw (s.shedRecord i) :=
  h.released (bindingKept_shedRecord i) (fun j hj => by rw [shedRecord_record, if_neg (Ne.symm hj)])
    (by rw [shedRecord_record, if_pos rfl]; rfl) fun c => shedRecord_channel s i c

/-- A record written and its shares split anew. -/
theorem Loose.rewritten (h : Loose s i) {r : DrawRecord} (hr : r.feeders = (s.record i).feeders) (hfrozen : s.frozenSum i ≤ r.present)
    (hcarried : r.present ≤ s.carrying i) : ShareLaw ((s.setRecord i r).reSplit i) := by
  have hrec : (s.setRecord i r).record i = r := record_setRecord_self s i r
  refine (h.setRecord hr).split ?_ ?_
  · rw [State.frozenSum, hrec, hr]; exact hfrozen
  · rw [State.carrying, hrec, hr]; exact hcarried

theorem Loose.moved (h : Loose s i) {p : Nat} (hfrozen : s.frozenSum i ≤ p) (hcarried : p ≤ s.carrying i) : ShareLaw (s.movePresent i p) := by
  have hsplit := h.rewritten (r := { s.record i with present := p }) rfl hfrozen hcarried
  exact shareLaw_same hsplit (by rw [State.movePresent, noteArrival_eq]) (by rw [State.movePresent, noteArrival_eq])

/-! ## A cut to a grant (R58, R59) -/

theorem carrying_eq (s : State) (i : Slot) : s.carrying i = s.frozenSum i + s.onlineSum i := by
  rw [carrying_split, State.onlineSum, sum_onlineOf]

theorem lowerFrozen_online (s : State) (e : Nat) (fs : List Feeder) (c : Chan) :
    ((s.lowerFrozen e fs).channel c).onlineCapacity = (s.channel c).onlineCapacity := by
  by_cases h : (s.channel c).condition = .stale
  · have hcond : ((s.lowerFrozen e fs).channel c).condition = .stale := by rw [lowerFrozen_channel]; exact h
    rw [Channel.onlineCapacity, Channel.onlineCapacity, if_neg (by rw [hcond]; exact Condition.noConfusion),
      if_neg (by rw [h]; exact Condition.noConfusion)]
  · rw [lowerFrozen_notStale s e fs c h]

theorem Loose.cut (h : Loose s i) (hgrant : (s.record i).grant < (s.record i).present) (hcarried : (s.record i).present ≤ s.carrying i) :
    ShareLaw (s.cutPresent i) := by
  obtain ⟨u, hu⟩ : ∃ u, u = s.lowerFrozen (s.frozenSum i - (s.record i).grant) (s.record i).feeders.reverse := ⟨_, rfl⟩
  have hrecord : ∀ j, u.record j = s.record j := fun j => by rw [hu, lowerFrozen_record]
  have hloose : Loose u i := h.change (by rw [hu]; exact bindingKept_lowerFrozen _ _) (fun j _ => hrecord j) fun c hc => by
    rw [hu]
    exact lowerFrozen_other s _ _ c fun f hf => hc f (List.mem_reverse.mp hf)
  have hfrozen : u.frozenSum i = s.frozenSum i - (s.frozenSum i - (s.record i).grant) := by
    have hsum := lowerFrozen_sum s (s.frozenSum i - (s.record i).grant) (s.record i).feeders.reverse
      (by rw [List.map_reverse, List.nodup_reverse]; exact (h.listed i).1)
    rw [← hu, feederSum_reverse, feederSum_reverse] at hsum
    rw [State.frozenSum, hrecord]
    exact hsum
  have honline : u.onlineSum i = s.onlineSum i := by
    rw [State.onlineSum, State.onlineSum, hrecord]
    exact feederSum_alike fun f _ => by rw [hu, lowerFrozen_online]
  have hcarrying := carrying_eq u i
  rw [carrying_eq] at hcarried
  rw [State.cutPresent, ← hu]
  exact hloose.moved (by omega) (by omega)

end

end Sys2Proof.Machine

/-!
The law of shares under every move, and the step that keeps it (R62, R66 to R69, R74).
-/

namespace Sys2Proof.Machine

section
variable {Q : Cmd → Prop} {s t : State}

/-! ## A channel reported (R124, R134, R135) -/

section
variable {c : Chan} {y : Channel} {event : Bool}

/-- R132: a FETCH leaves no channel STALE, and takes the share of one that was. -/
theorem fetched_shares (s : State) (c : Chan) (ready fault limit : Bool) (measured : Nat) :
    (s.fetched c ready fault limit measured).condition ≠ .stale
      ∧ (s.fetched c ready fault limit measured).share = if (s.channel c).condition = .stale then 0 else (s.channel c).share := by
  rw [fetched_eq rfl rfl rfl rfl rfl rfl rfl rfl]
  refine ⟨?_, rfl⟩
  show (if _ then _ else _) ≠ _
  split
  next h =>
    intro hstale
    rw [hstale] at h
    exact Bool.noConfusion h
  next =>
    split
    · exact Condition.noConfusion
    · split <;> exact Condition.noConfusion

/-- R134: the frozen share a channel comes to hold is no more than its share was. -/
theorem ChannelMove.frozenShare_le (h : ChannelMove s c y event) : y.frozenShare ≤ (s.channel c).share := by
  cases h
  case fetched ready fault limit measured =>
    rw [frozenShare_other (fetched_shares s c ready fault limit measured).1]
    exact Nat.zero_le _
  case frozen => exact (frozenShare_stale rfl).le
  case lost => exact Nat.zero_le _

/-- A channel without a share is given none by a report. -/
theorem ChannelMove.shareless (h : ChannelMove s c y event) (h0 : (s.channel c).share = 0) :
    y.shareLawful ∧ y.share = 0 ∧ y.frozenShare = 0 := by
  have hfrozen : y.frozenShare = 0 := Nat.eq_zero_of_le_zero (h0 ▸ h.frozenShare_le)
  have hshare : y.share = 0 := by
    cases h
    case fetched ready fault limit measured =>
      rw [(fetched_shares s c ready fault limit measured).2, h0]
      exact ite_self 0
    case frozen => exact h0
    case lost => rfl
  exact ⟨⟨fun _ => hshare, fun hst => by rw [hshare, ← hfrozen, frozenShare_stale hst], fun _ _ => hshare⟩, hshare, hfrozen⟩

/-- R66: a report that is no capacity event leaves the share, the frozen share and the usable capacity. -/
theorem ChannelMove.alike (h : ChannelMove s c y event) (hevent : event = false) (hx : (s.channel c).shareLawful) :
    (s.channel c).alike y ∧ y.shareLawful := by
  obtain ⟨hfree, hstale, hidle⟩ := hx
  have howner := h.owner
  cases h
  case fetched ready fault limit measured =>
    obtain ⟨hnot, hshare⟩ := fetched_shares s c ready fault limit measured
    have hsame := not_not.mp (mt (capacityChanged_iff _ _).mpr (by rw [hevent]; exact Bool.false_ne_true))
    obtain ⟨honline, hst, husable, -⟩ := hsame
    have hnotold : (s.channel c).condition ≠ .stale := fun e => hnot (hst.mp e)
    rw [if_neg hnotold] at hshare
    refine ⟨⟨hshare, by rw [frozenShare_other hnot, frozenShare_other hnotold], husable.symm⟩, ?_, fun e => absurd e hnot, fun _ hne => ?_⟩
    · rw [howner, hshare]; exact hfree
    · rw [hshare]; exact hidle hnotold fun e => hne (honline.mp e)
  case frozen => cases hevent
  case lost h =>
    have hquiet : (s.channel c).share = 0 ∧ (s.channel c).frozenShare = 0 ∧ (s.channel c).usable = 0 := by
      rcases h with h | h
      · have hfrozen : (s.channel c).frozen = 0 := by
          have hnone := of_decide_eq_false hevent
          exact Nat.eq_zero_of_not_pos fun hpos => hnone ⟨h, .inl hpos⟩
        rw [hstale h, frozenShare_stale h, Channel.usable, h, hfrozen]
        exact ⟨rfl, rfl, rfl⟩
      · have hne : (s.channel c).condition ≠ .stale := by rw [h]; exact Condition.noConfusion
        rw [hidle hne (by rw [h]; exact Condition.noConfusion), frozenShare_other hne, Channel.usable, h]
        exact ⟨rfl, rfl, rfl⟩
    obtain ⟨h1, h2, h3⟩ := hquiet
    exact ⟨⟨h1.symm, h2.symm, h3.symm⟩, fun _ => rfl, fun _ => rfl, fun _ _ => rfl⟩

end

/-- What the law says of a channel without a share, in sums. -/
theorem sumsAt_shareless {i : Slot} (hpresent : (s.record i).present = 0)
    (h : ∀ f ∈ (s.record i).feeders, (s.channel f.channel).share = 0 ∧ (s.channel f.channel).frozenShare = 0) : SumsAt s i := by
  have hsum : ∀ g : Channel → Nat, (∀ f ∈ (s.record i).feeders, g (s.channel f.channel) = 0) → s.feederSum (s.record i).feeders g = 0 :=
    fun g hg => List.sum_eq_zero fun n hn => by
      obtain ⟨f, hf, rfl⟩ := List.mem_map.mp hn
      exact hg f hf
  rw [SumsAt, State.frozenSum, hpresent, hsum _ fun f hf => (h f hf).1, hsum _ fun f hf => (h f hf).2]
  exact ⟨rfl, Nat.le_refl 0, Nat.zero_le _⟩

/-- R19: the feeders of a record without a present have no shares. -/
theorem share_eq_zero {i : Slot} (hs : SumsAt s i) (hpresent : (s.record i).present = 0) {f : Feeder} (hf : f ∈ (s.record i).feeders) :
    (s.channel f.channel).share = 0 :=
  List.sum_eq_zero_iff.mp (hs.1.trans hpresent) _ (List.mem_map.mpr ⟨f, hf, rfl⟩)

/-- R65: a lawful channel's frozen share is no more than its share. -/
theorem frozenShare_le_share {x : Channel} (h : x.shareLawful) : x.frozenShare ≤ x.share := by
  by_cases hst : x.condition = .stale
  · rw [frozenShare_stale hst, h.2.1 hst]
  · rw [frozenShare_other hst]; exact Nat.zero_le _

section
variable {c : Chan} {y : Channel} {event : Bool} (hfeeder : FeederLaw s) (hs : ShareLaw s)
include hfeeder hs

theorem loose_setChannel {i : Slot} (howner : (s.channel c).owner = some i) (hy : y.owner = (s.channel c).owner) :
    Loose (s.setChannel c y) i := by
  refine (loose_of_law hfeeder hs i).change (bindingKept_setChannel c hy) (fun _ _ => rfl) fun d hd => ?_
  obtain ⟨f, hf, hfc⟩ := (hfeeder i c).mpr howner
  exact channel_setChannel_ne _ _ (hfc ▸ hd f hf)

/-- R67 to R69: a capacity event at a channel of a live record. -/
theorem shareLaw_absorbed (hpresent : PresentLaw s) {i : Slot} (howner : (s.channel c).owner = some i) (h : ChannelMove s c y event) :
    ShareLaw ((s.setChannel c y).absorbCapacity i) := by
  obtain ⟨hrecords, hchannels⟩ := shareLaw_iff.mp hs
  have hloose := loose_setChannel hfeeder hs howner h.owner
  have hfrozen : (s.setChannel c y).frozenSum i ≤ (s.record i).present := by
    rw [← (hrecords i).2.1]
    refine List.sum_le_sum fun f _ => ?_
    rw [channel_setChannel]
    split
    next hc => rw [← hc]; exact h.frozenShare_le
    next => exact frozenShare_le_share (hchannels _)
  have hcarrying : (s.setChannel c y).frozenSum i ≤ (s.setChannel c y).carrying i := by rw [carrying_eq]; exact Nat.le_add_right _ _
  rcases absorbCapacity_cases (s.setChannel c y) i with ⟨e, hactive, hreleasing⟩ | ⟨e, -, -, hle⟩ | ⟨e, -⟩ | ⟨e, -⟩ | ⟨e, -⟩ <;> rw [e]
  · have hzero : (s.record i).present = 0 := by
      by_contra hne
      rcases hpresent i hne with hst | hst
      · exact hactive hst
      · exact hne (hreleasing hst)
    have hnone : ∀ f ∈ (s.record i).feeders, ((s.setChannel c y).channel f.channel).shareLawful
        ∧ ((s.setChannel c y).channel f.channel).share = 0 ∧ ((s.setChannel c y).channel f.channel).frozenShare = 0 := fun f hf => by
      have hshare := share_eq_zero (hrecords i).2 hzero hf
      rw [channel_setChannel]
      split
      next hc => exact h.shareless (by rw [hc]; exact hshare)
      next => exact ⟨hchannels _, hshare, Nat.eq_zero_of_le_zero (hshare ▸ frozenShare_le_share (hchannels _))⟩
    exact hloose.law (sumsAt_shareless hzero fun f hf => (hnone f hf).2) fun f hf => (hnone f hf).1
  · exact hloose.split hfrozen hle
  · exact hloose.moved hcarrying (Nat.le_refl _)
  · exact hloose.descended
  · exact hloose.faulted _

theorem shareLaw_reportedAt (hfree : FreeLaw s) (hpresent : PresentLaw s) (h : ChannelMove s c y event) : ShareLaw (s.reportedAt c y event) := by
  obtain ⟨-, hchannels⟩ := shareLaw_iff.mp hs
  have hset : (∀ i, ∀ f ∈ (s.record i).feeders, (s.channel f.channel).alike ((s.setChannel c y).channel f.channel)) →
      y.shareLawful → ShareLaw (s.setChannel c y) := fun halike hlawful =>
    shareLaw_alike hs (fun _ => rfl) (fun _ => rfl) halike fun d hd => by
      rw [channel_setChannel]
      split
      · exact hlawful
      · exact hd
  cases event with
  | false =>
    obtain ⟨halike, hlawful⟩ := h.alike rfl (hchannels c)
    refine hset (fun i f _ => ?_) hlawful
    rw [channel_setChannel]
    split
    next hc => rw [← hc]; exact halike
    next => exact ⟨rfl, rfl, rfl⟩
  | true =>
    have hown : ((s.setChannel c y).channel c).owner = (s.channel c).owner := by rw [channel_setChannel_self]; exact h.owner
    cases howner : (s.channel c).owner with
    | none =>
      have habsorb : s.reportedAt c y true = s.setChannel c y := absorbAt_unbound (hown.trans howner)
      rw [habsorb]
      refine hset (fun i f hf => ?_) (h.shareless ((hchannels c).1 howner)).1
      have hfed : (s.channel f.channel).owner = some i := (hfeeder i f.channel).mp ⟨f, hf, rfl⟩
      rw [channel_setChannel, if_neg fun hc => by rw [← hc, howner] at hfed; cases hfed]
      exact ⟨rfl, rfl, rfl⟩
    | some i =>
      have hlive : ((s.setChannel c y).record i).live = true := (live_iff _).mpr fun hst => by
        obtain ⟨f, hf, -⟩ := (hfeeder i c).mpr howner
        rw [hfree i hst] at hf
        cases hf
      have habsorb : s.reportedAt c y true = (s.setChannel c y).absorbCapacity i := by
        refine (absorbAt_bound (hown.trans howner)).trans ?_
        rw [if_pos hlive]
      rw [habsorb]
      exact shareLaw_absorbed hfeeder hs hpresent howner h

end

/-! ## A publication (R18, R20, R58 to R60) -/

/-- What the stages of a publication keep. -/
abbrev Shared (s : State) : Prop := FeederLaw s ∧ ShareLaw s

theorem foldl_keeps {α : Type} {P : State → Prop} {F : State → α → State} (hF : ∀ u a, P u → P (F u a)) (as : List α) {u : State} (hu : P u) :
    P (as.foldl F u) := by
  induction as generalizing u with
  | nil => exact hu
  | cons a as ih => exact ih (hF u a hu)

theorem shared_shedRecord (h : Shared s) (i : Slot) : Shared (s.shedRecord i) :=
  ⟨feederLaw_binding h.1 (bindingKept_shedRecord i), (loose_of_law h.1 h.2 i).shed⟩

theorem presentLaw_shedRecord (h : PresentLaw s) (i : Slot) : PresentLaw (s.shedRecord i) := by
  intro j hj
  rw [shedRecord_record] at hj ⊢
  split at hj
  next => exact absurd rfl hj
  next hne => rw [if_neg hne]; exact h j hj

theorem shared_cutAt (h : Shared s) (i : Slot) : Shared (s.cutAt i) := by
  refine ⟨feederLaw_binding h.1 (bindingKept_cutAt i), ?_⟩
  have hloose := loose_of_law h.1 h.2 i
  have hsame : ∀ {u : State} (b : Bool), ShareLaw u → ShareLaw (u.requestIf b) := fun b hu =>
    shareLaw_same hu (by rw [requestIf_eq]; rfl) (by rw [requestIf_eq]; rfl)
  obtain ⟨-, -, hcarried⟩ : SumsAt s i := ((shareLaw_iff.mp h.2).1 i).2
  rcases cutAt_cases s i with ⟨hcut, -, e⟩ | ⟨-, -, e⟩ | ⟨-, -, e⟩ <;> rw [e]
  · exact hsame _ (hloose.cut hcut.2 hcarried)
  · exact hsame true hloose.descended
  · exact h.2

/-- R18: an admission changes no present, a record that is PENDING or SHED having none. -/
theorem shared_engageRecord (h : Shared s) (hpresent : PresentLaw s) (i : Slot) : Shared (s.engageRecord i) ∧ PresentLaw (s.engageRecord i) := by
  have hengage : ((s.record i).engageFor s.timing).present = (s.record i).present
      ∧ ((s.record i).engageFor s.timing = s.record i ∨ ((s.record i).engageFor s.timing).present = 0) := by
    unfold DrawRecord.engageFor
    split
    next hst =>
      refine ⟨?_, .inr rfl⟩
      by_contra hne
      rcases hpresent i (Ne.symm hne) with h | h <;> rcases hst with h' | h' <;> rw [h] at h' <;> cases h'
    next => exact ⟨rfl, .inl rfl⟩
  have hbind : BindingKept s (s.engageRecord i) := bindingKept_engageRecord i
  have hrecord : ∀ j, (s.engageRecord i).record j = if i = j then (s.record i).engageFor s.timing else s.record j := fun j => by
    rw [engageRecord_eq, record_setRecord]
  refine ⟨⟨feederLaw_binding h.1 hbind, shareLaw_of_eq h.2 hbind.feeders (fun j => ?_) (by rw [engageRecord_eq]; rfl)⟩, fun j hj => ?_⟩
  · rw [hrecord]
    split
    next hij => rw [← hij]; exact hengage.1
    next => rfl
  · rw [hrecord] at hj ⊢
    split at hj
    next hij =>
      rw [if_pos hij]
      rcases hengage.2 with e | e
      · rw [e] at hj ⊢; exact hpresent i hj
      · exact absurd e hj
    next hij => rw [if_neg hij]; exact hpresent j hj

/-- What the drops and the admissions of a publication keep. -/
abbrev Admitting (s : State) : Prop := Shared s ∧ PresentLaw s

theorem admitting_granted (h : Admitting s) (n : Snapshot) : Admitting (s.granted n) := by
  obtain ⟨⟨hfeeder, hs⟩, hpresent⟩ := h
  refine ⟨⟨feederLaw_binding hfeeder (bindingKept_granted n), ?_⟩, fun i hi => by rw [granted_record] at hi ⊢; exact hpresent i hi⟩
  refine shareLaw_of_eq hs (fun i => by rw [granted_record]) (fun i => by rw [granted_record]) ?_
  obtain ⟨table, -, h⟩ := granted_spec s n
  rw [h]

theorem admitting_capture (h : Admitting s) (x : FaultName) (k : Nat) : Admitting (s.capture x k) := by
  obtain ⟨⟨hfeeder, hs⟩, hpresent⟩ := h
  refine ⟨⟨feederLaw_binding hfeeder (bindingKept_captureAs _ _ _), shareLaw_same hs ?_ ?_⟩, fun i => ?_⟩
  · rw [State.capture, captureAs_eq]
  · rw [State.capture, captureAs_eq]
  · rw [State.capture, captureAs_record]; exact hpresent i

theorem admitting_applyDrops (h : Admitting s) (dropped : List Slot) : Admitting (s.applyDrops dropped) := by
  have hshed : Admitting ((s.effective dropped).foldl State.shedRecord s) :=
    foldl_keeps (P := Admitting) (fun u i hu => ⟨shared_shedRecord hu.1 i, presentLaw_shedRecord hu.2 i⟩) _ h
  rcases applyDrops_capture s dropped with e | ⟨k, e⟩ <;> rw [e]
  · exact hshed
  · exact admitting_capture hshed _ k

theorem shared_applyCuts (h : Shared s) : Shared s.applyCuts := by
  rw [applyCuts_eq]
  exact foldl_keeps (P := Shared) (fun u i hu => shared_cutAt hu i) slots h

theorem shareLaw_publish (hfeeder : FeederLaw s) (hpresent : PresentLaw s) (hs : ShareLaw s) (n : Snapshot) : ShareLaw (s.publish n) := by
  have hadmitted : Admitting (s.admitted n) :=
    foldl_keeps (P := Admitting) (fun u i hu => shared_engageRecord hu.1 hu.2 i) n.admitted
      (admitting_applyDrops (admitting_granted ⟨⟨hfeeder, hs⟩, hpresent⟩ n) n.dropped)
  rw [publish_eq]
  exact shareLaw_alike (shared_applyCuts hadmitted.1).2 (fun i => by rw [writeBreach_record]) (fun i => by rw [writeBreach_record])
    (fun i f _ => by rw [writeBreach_channel]; exact ⟨rfl, rfl, rfl⟩) fun c h => by rw [writeBreach_channel]; exact h

end

end Sys2Proof.Machine

/-!
Every move keeps the law of shares, and so does every step (R10, R12, R62, R66 to R69, R74).
-/

namespace Sys2Proof.Machine

section
variable {Q : Cmd → Prop} {s t : State}

/-! ## Records opened, freed and rewritten -/

/-- What the rewriting of a record leaves of it. -/
theorem Rewritten.kept {i : Slot} {r : DrawRecord} (h : Rewritten s i r) :
    r.feeders = (s.record i).feeders ∧ r.present = (s.record i).present := by
  cases h
  case aimed => rw [lowerAim_eq]; exact ⟨rfl, rfl⟩
  case retargeted => exact ⟨rfl, rfl⟩
  case amended => exact ⟨rfl, rfl⟩
  case left => exact ⟨rfl, rfl⟩

theorem shareLaw_rewritten (hs : ShareLaw s) {i : Slot} {r : DrawRecord} (h : Rewritten s i r) : ShareLaw (s.setRecord i r) := by
  obtain ⟨hfeeders, hpresent⟩ := h.kept
  refine shareLaw_of_eq hs (bindingKept_setRecord i hfeeders).feeders (fun j => ?_) rfl
  rw [record_setRecord]
  split
  next hij => rw [← hij]; exact hpresent
  next => rfl

/-- R17: the channels bound by an OPEN DRAW come without shares, and the record without a present. -/
theorem shareLaw_openedAt (hfeeder : FeederLaw s) (hs : ShareLaw s) {p : OpenParams} (hlisted : Listed p.feeders)
    (hreasons : s.openReasons p = 0) : ShareLaw (s.openedAt p) := by
  obtain ⟨hrecords, hchannels⟩ := shareLaw_iff.mp hs
  obtain ⟨-, -, hunbound, -⟩ := (openReasons_eq_zero _ p).mp hreasons
  have hbound : ∀ f ∈ p.feeders, ((s.openedAt p).channel f.channel).share = 0
      ∧ ((s.openedAt p).channel f.channel).frozenShare = 0 := fun f hf => by
    rw [openedAt_channel_mem ⟨f, hf, rfl⟩]
    exact ⟨(hchannels _).1 (hunbound f hf).2, rfl⟩
  refine shareLaw_iff.mpr ⟨fun i => ?_, fun c => ?_⟩
  · by_cases hi : p.slot = i
    · have hrec : (s.openedAt p).record i = openedRecord p s.seq.state := by rw [openedAt_record, if_pos hi]
      refine ⟨by rw [hrec]; exact hlisted, sumsAt_shareless (by rw [hrec]; rfl) fun f hf => hbound f ?_⟩
      rw [hrec] at hf
      exact hf
    · have hrec : (s.openedAt p).record i = s.record i := by rw [openedAt_record, if_neg hi]
      refine ⟨by rw [hrec]; exact (hrecords i).1, sumsAt_alike (hrecords i).2 (by rw [hrec]) (by rw [hrec]) fun f hf => ?_⟩
      have hfed : (s.channel f.channel).owner = some i := (hfeeder i f.channel).mp ⟨f, hf, rfl⟩
      rw [openedAt_channel_other fun g hg hgf => by rw [← hgf, (hunbound g hg).2] at hfed; cases hfed]
      exact ⟨rfl, rfl, rfl⟩
  · by_cases hc : ∃ f ∈ p.feeders, f.channel = c
    · obtain ⟨f, hf, rfl⟩ := hc
      have hshare := (hbound f hf).1
      refine ⟨fun _ => hshare, fun hst => ?_, fun _ _ => hshare⟩
      rw [openedAt_channel_mem ⟨f, hf, rfl⟩] at hst
      cases hst
    · rw [openedAt_channel_other fun f hf hfc => hc ⟨f, hf, hfc⟩]
      exact hchannels c

/-- R12: the channels of a record that becomes FREE lose their shares. -/
theorem shareLaw_enterFree (hfeeder : FeederLaw s) (hs : ShareLaw s) (i : Slot) : ShareLaw (s.enterFree i) := by
  obtain ⟨hrecords, hchannels⟩ := shareLaw_iff.mp hs
  refine shareLaw_iff.mpr ⟨fun j => ?_, fun c => ?_⟩
  · by_cases hj : i = j
    · have hrec : (s.enterFree i).record j = DrawRecord.free := by rw [enterFree_record, if_pos hj]
      have hempty : ((s.enterFree i).record j).feeders = [] := by rw [hrec]; rfl
      refine ⟨by rw [hempty]; exact ⟨List.nodup_nil, fun f hf => by cases hf⟩, sumsAt_shareless (by rw [hrec]; rfl) fun f hf => ?_⟩
      rw [hempty] at hf
      cases hf
    · have hrec : (s.enterFree i).record j = s.record j := by rw [enterFree_record, if_neg hj]
      refine ⟨by rw [hrec]; exact (hrecords j).1, sumsAt_alike (hrecords j).2 (by rw [hrec]) (by rw [hrec]) fun f hf => ?_⟩
      have hfed : (s.channel f.channel).owner = some j := (hfeeder j f.channel).mp ⟨f, hf, rfl⟩
      rw [enterFree_other s i _ fun g hg hgf => hj (Option.some.inj (((hfeeder i f.channel).mp ⟨g, hg, hgf⟩).symm.trans hfed))]
      exact ⟨rfl, rfl, rfl⟩
  · by_cases hc : ∃ f ∈ (s.record i).feeders, f.channel = c
    · rw [enterFree_mem s i c hc]
      exact ⟨fun _ => rfl, fun _ => rfl, fun _ _ => rfl⟩
    · rw [enterFree_other s i c fun f hf hfc => hc ⟨f, hf, hfc⟩]
      exact hchannels c

/-- R19: a record that becomes ACTIVE has its floor as present, which its ONLINE feeders carry. -/
theorem shareLaw_engagedAt (hfeeder : FeederLaw s) (hpresent : PresentLaw s) (hs : ShareLaw s) {i : Slot}
    (hst : (s.record i).state = .engaging) (hfits : (s.record i).floor ≤ s.onlineSum i) : ShareLaw (s.engagedAt i) := by
  have hzero : (s.record i).present = 0 := by
    by_contra hne
    rcases hpresent i hne with h | h <;> rw [hst] at h <;> cases h
  obtain ⟨-, hfrozen, -⟩ : SumsAt s i := ((shareLaw_iff.mp hs).1 i).2
  have hcarrying := carrying_eq s i
  have hsplit := (loose_of_law hfeeder hs i).rewritten
    (r := { s.record i with state := .active, present := (s.record i).floor, engageTimer := none }) rfl
    (hfrozen.trans (by rw [hzero]; exact Nat.zero_le _)) (by show (s.record i).floor ≤ _; omega)
  exact shareLaw_same hsplit rfl rfl

/-! ## Channels settled, rearmed and capped -/

theorem shareLaw_settled (hfeeder : FeederLaw s) (hs : ShareLaw s) {c : Chan} (enabled : Bool) (capacity : Nat)
    (h : (s.channel c).owner = none) : ShareLaw (s.setChannel c { s.channel c with enabled := enabled, capacity := capacity }) := by
  refine shareLaw_alike hs (fun _ => rfl) (fun _ => rfl) (fun i f hf => ?_) fun d hd => ?_
  · have hfed : (s.channel f.channel).owner = some i := (hfeeder i f.channel).mp ⟨f, hf, rfl⟩
    rw [channel_setChannel, if_neg fun hc => by rw [← hc, h] at hfed; cases hfed]
    exact ⟨rfl, rfl, rfl⟩
  · rw [channel_setChannel]
    split
    next hc => subst hc; exact hd
    next => exact hd

/-- R136: a channel rearmed carries nothing, before and after. -/
theorem shareLaw_rearmed (hs : ShareLaw s) {c : Chan} (h : (s.channel c).condition = .tripped) :
    ShareLaw (s.setChannel c { s.channel c with condition := .waiting }) := by
  refine shareLaw_alike hs (fun _ => rfl) (fun _ => rfl) (fun i f _ => ?_) fun d hd => ?_
  · rw [channel_setChannel]
    split
    next hc =>
      subst hc
      refine ⟨rfl, ?_, ?_⟩
      · rw [Channel.frozenShare, Channel.frozenShare, h]; rfl
      · rw [Channel.usable, Channel.usable, h]
    next => exact ⟨rfl, rfl, rfl⟩
  · rw [channel_setChannel]
    split
    next hc =>
      subst hc
      obtain ⟨hfree, -, hidle⟩ := hd
      have hshare : (s.channel c).share = 0 := hidle (by rw [h]; exact Condition.noConfusion) (by rw [h]; exact Condition.noConfusion)
      exact ⟨fun _ => hshare, fun e => Condition.noConfusion e, fun _ _ => hshare⟩
    next => exact hd

theorem shareLaw_timed (hs : ShareLaw s) (x : Timing) : ShareLaw (s.timed x) := by
  have hchannel : ∀ c, (s.timed x).channel c = (s.channel c).capMismatch x.trackCount := fun c => channel_mapChannels (s.setTiming x) _ c
  refine shareLaw_alike hs (fun _ => rfl) (fun _ => rfl) (fun i f _ => ?_) fun c h => ?_
  · rw [hchannel]; exact ⟨rfl, rfl, rfl⟩
  · rw [hchannel]; exact h

theorem shareLaw_fresh (h : Fresh t) : ShareLaw t := by
  refine shareLaw_iff.mpr ⟨fun i => ?_, fun c => by rw [h.channel]; exact ⟨fun _ => rfl, fun _ => rfl, fun _ _ => rfl⟩⟩
  have hempty : (t.record i).feeders = [] := by rw [h.record]; rfl
  refine ⟨by rw [hempty]; exact ⟨List.nodup_nil, fun f hf => by cases hf⟩, sumsAt_shareless (by rw [h.record]; rfl) fun f hf => ?_⟩
  rw [hempty] at hf
  cases hf

/-! ## The moves -/

theorem shareLaw_move (hQ : ∀ p, Q (.openDraw p) → Listed p.feeders) (hfeeder : FeederLaw s) (hfree : FreeLaw s) (hpresent : PresentLaw s)
    (hs : ShareLaw s) (h : Move Q s t) : ShareLaw t := by
  have hsums : ∀ i, SumsAt s i := fun i => ((shareLaw_iff.mp hs).1 i).2
  have hloose := loose_of_law hfeeder hs
  cases h
  case outer h =>
    have htable := congrArg State.table h
    have hchannels := congrArg State.channels h
    exact shareLaw_same hs htable hchannels
  case port => exact shareLaw_same hs rfl rfl
  case overtaken => exact shareLaw_same hs rfl rfl
  case ramp => exact shareLaw_same hs rfl rfl
  case engine => exact shareLaw_same hs rfl rfl
  case marks hrest =>
    have htable := congrArg State.table hrest
    exact shareLaw_same hs htable hrest.channels
  case cleared => exact shareLaw_same hs rfl rfl
  case served hrest _ =>
    have htable := congrArg State.table hrest
    have hchannels := congrArg State.channels hrest
    exact shareLaw_same hs htable hchannels
  case sensed => exact shareLaw_same hs rfl rfl
  case rewritten h => exact shareLaw_rewritten hs h
  case moved i p _ hcarried hfrozen =>
    obtain ⟨-, hle, hge⟩ := hsums i
    exact (hloose i).moved (hfrozen.elim id hle.trans) (hcarried.elim id fun e => e.trans hge)
  case descended i _ => exact (hloose i).descended
  case faulted i x _ => exact (hloose i).faulted x
  case engaged i hst hfits => exact shareLaw_engagedAt hfeeder hpresent hs hst hfits
  case opened p hq hreasons _ => exact shareLaw_openedAt hfeeder hs (hQ p hq) hreasons
  case freed i => exact shareLaw_enterFree hfeeder hs i
  case settled enabled capacity h => exact shareLaw_settled hfeeder hs enabled capacity h
  case rearmed h => exact shareLaw_rearmed hs h
  case reported h => exact shareLaw_reportedAt hfeeder hs hfree hpresent h
  case timed x _ => exact shareLaw_timed hs x
  case sequencer h =>
    have hchannels := congrArg State.channels h.rest
    exact shareLaw_of_eq hs (fun i => h.keeps (P := fun r => r.feeders = (s.record i).feeders) (fun _ _ => id) i rfl)
      (fun i => h.keeps (P := fun r => r.present = (s.record i).present) (fun _ _ => id) i rfl) hchannels
  case published n _ => exact shareLaw_publish hfeeder hpresent hs n
  case restarted => exact shareLaw_fresh ⟨rfl, rfl, rfl, rfl, rfl⟩

end

theorem listed_of_inRange {p : OpenParams} (h : (Cmd.openDraw p).inRange = true) : Listed p.feeders := by
  simp only [Cmd.inRange, OpenParams.inRange, Bool.and_eq_true, decide_eq_true_eq, List.all_eq_true, channelsDistinct] at h
  exact ⟨h.2, fun f hf => (h.1.2 f hf).1⟩

/-- Settles O55: every move of commands in range keeps the law with those of feeders, FREE records and presents. -/
theorem sharesSumToPresentAlways : Obligations.SharesSumToPresentAlways := by
  intro s t hfeeder hshares _ hfree hpresent hwait h
  obtain ⟨-, -, -, hkept⟩ := (moves_step_inRange hwait h).keeps (P := fun u => FeederLaw u ∧ FreeLaw u ∧ PresentLaw u ∧ ShareLaw u)
    (fun _ _ ⟨h1, h2, h3, h4⟩ hmove => ⟨feederLaw_move h1 h2 hmove, freeLaw_move h2 hmove, presentLaw_move h3 hmove,
      shareLaw_move (fun _ => listed_of_inRange) h1 h2 h3 h4 hmove⟩) ⟨hfeeder, hfree, hpresent, hshares⟩
  exact hkept

end Sys2Proof.Machine
